-- ==== Sys2Proof/Config.lean ====
section
/-! DEFINITION. What an implementation of the block fixes: the parameters of 00_scope.md R5, and the
points the spec leaves open as uninterpreted constants (no body: nothing can be proved of their values). -/

namespace Sys2Proof

/-- The implementation parameters of 00_scope.md R5. OPND_W is derived from them. -/
structure Params where
  /-- IDX_W: width of WR_IDX, RD_IDX and MASK. -/
  idxW : Nat
  /-- DATA_W: width of one element. -/
  dataW : Nat
  /-- AW: width of a storage slot address. -/
  aw : Nat
  /-- CAP_MAX_LOG2: log2 of the largest capacity SETUP accepts. -/
  capMaxLog2 : Nat
deriving DecidableEq, Repr

/-- OPND_W = max(DATA_W, AW), 00_scope.md R5. -/
abbrev Params.opndW (p : Params) : Nat := max p.dataW p.aw

/-- The legal values of 00_scope.md R5. -/
abbrev Params.Legal (p : Params) : Prop :=
  1 ≤ p.idxW ∧ 1 ≤ p.dataW ∧ 1 ≤ p.aw ∧ p.capMaxLog2 ≤ min 23 (min p.idxW p.aw)

/-- The defaults of 00_scope.md R5. -/
def Params.defaults : Params := { idxW := 32, dataW := 32, aw := 32, capMaxLog2 := 16 }

/-- FREE VALUE. The scheduler's choice at the n-th point where no scheduled turn is given:
"one port with an enabled micro-step takes it; the choice is free" (60_exceptions.md R151). Log 3. -/
opaque Config.freeTurn : Nat → Nat

/-- FREE VALUE. STORAGE_VALID(BASE, C) of 20_memory.md R60: a platform parameter, applied to the slot
address BASE and the capacity C. The block does not consult it (92_eei_decisions.md D20). Log 12. -/
opaque Config.storageValid : Nat → Nat → Bool

end Sys2Proof
end

