-- ==== Sys2Proof/Word.lean ====
section
/-! DEFINITION. The block's words: every register and bus width of 00_scope.md R5 as a type, and the
three command ports of 10_state.md R20. -/

namespace Sys2Proof

/-- A command word CMD: exactly 32 bits (30_encoding.md R70). -/
abbrev CmdWord := BitVec 32

/-- An index register or MASK: IDX_W bits. -/
abbrev Idx (p : Params) := BitVec p.idxW

/-- A storage slot address: AW bits (20_memory.md R50). -/
abbrev Addr (p : Params) := BitVec p.aw

/-- An element, one storage slot: DATA_W bits, opaque (00_scope.md R8). -/
abbrev Elem (p : Params) := BitVec p.dataW

/-- The operand bus OPND: OPND_W bits (30_encoding.md R70). -/
abbrev Opnd (p : Params) := BitVec p.opndW

/-- The command ports of 10_state.md R20. -/
inductive Port where
  /-- CTRL, port id 1: the control agent. -/
  | ctrl
  /-- PROD, port id 2: the producer. -/
  | prod
  /-- CONS, port id 3: the consumer. -/
  | cons
deriving DecidableEq, Repr

/-- The 2-bit port id of 10_state.md R20. -/
def Port.id : Port → BitVec 2
  | .ctrl => 1
  | .prod => 2
  | .cons => 3

/-- FAULT_PORT's code: 0 is "no port" (10_state.md R20, R21). -/
def Port.code : Option Port → BitVec 2
  | none => 0
  | some q => q.id

end Sys2Proof
end

