-- ==== Sys2Proof/Syntax.lean ====
section
/-! DEFINITION. The commands, one constructor per row of spec/opcode_table.json (30_encoding.md R72).
The element and the storage handle travel on OPND, not in CMD (92_eei_decisions.md D4), so they are no
part of a decoded command. -/

namespace Sys2Proof

/-- A decoded command word. -/
inductive Instr where
  /-- SETUP with the capacity CMD[31:8], an unsigned number (30_encoding.md R73). -/
  | setup (cap : Nat)
  /-- PUSH. -/
  | push
  /-- POP. -/
  | pop
  /-- IS_EMPTY. -/
  | isEmpty
deriving DecidableEq, Repr

end Sys2Proof
end

