-- ==== Sys2Proof/WellFormed.lean ====
section
/-! DEFINITION. Which commands can be written as a command word: a capacity is a 24-bit unsigned number
(30_encoding.md R71, R78: "cap in 0 .. 2^24-1"). Whether a capacity is legal is no matter of form: an
illegal one is a CFG_CAPACITY fault (40_setup.md R101). -/

namespace Sys2Proof

/-- The command fits the format of 30_encoding.md R71. -/
def Instr.wf : Instr → Bool
  | .setup cap => decide (cap < 2 ^ 24)
  | .push => true
  | .pop => true
  | .isEmpty => true

end Sys2Proof
end

