-- ==== Sys2Proof/Decode.lean ====
section
/-! DEFINITION. The command encoding of 30_encoding.md: the fields of a command word, the decoder, total
on all 32-bit words and rejecting by name, and the encoder written from the same table. -/

namespace Sys2Proof

/-- CMD[1:0], the opcode (30_encoding.md R71). -/
def opField (w : CmdWord) : BitVec 2 := w.extractLsb 1 0

/-- CMD[7:2], reserved, must be 0 for every OP (30_encoding.md R71). -/
def rsvField (w : CmdWord) : BitVec 6 := w.extractLsb 7 2

/-- CMD[31:8], the capacity of SETUP, reserved for any other OP (30_encoding.md R71). -/
def capField (w : CmdWord) : BitVec 24 := w.extractLsb 31 8

/-- Why a command word is illegal. Both are an ILLEGAL_ENCODING fault (30_encoding.md R74). -/
inductive DecodeError where
  /-- CMD[7:2] is not 0. -/
  | reservedBits
  /-- CMD[31:8] is not 0 and OP is not SETUP. -/
  | reservedCapacity
deriving DecidableEq, Repr

/-- A command whose CAPF field is reserved: it decodes only where that field is 0. -/
def decodePlain (i : Instr) (w : CmdWord) : Except DecodeError Instr :=
  if capField w = 0 then .ok i else .error .reservedCapacity

/-- The decoder of 30_encoding.md R71, R72 and R74. -/
def decode (w : CmdWord) : Except DecodeError Instr :=
  if rsvField w ≠ 0 then .error .reservedBits
  else if opField w = 0 then .ok (.setup (capField w).toNat)
  else if opField w = 1 then decodePlain .push w
  else if opField w = 2 then decodePlain .pop w
  else decodePlain .isEmpty w

/-- The OP code of a command (30_encoding.md R71). -/
def opCode : Instr → BitVec 2
  | .setup _ => 0
  | .push => 1
  | .pop => 2
  | .isEmpty => 3

/-- The CAPF field of a command (30_encoding.md R71). -/
def capCode : Instr → BitVec 24
  | .setup cap => BitVec.ofNat 24 cap
  | .push => 0
  | .pop => 0
  | .isEmpty => 0

/-- The command word CAPF, RSV = 000000, OP of a command (30_encoding.md R71, R78). -/
def encode (i : Instr) : CmdWord := capCode i ++ (0 : BitVec 6) ++ opCode i

/-- One row of the opcode map of 30_encoding.md R72. -/
structure OpRow where
  mnemonic : String
  matchBits : CmdWord
  mask : CmdWord
deriving DecidableEq, Repr

/-- The opcode map of 30_encoding.md R72. -/
def opRows : List OpRow :=
  [ { mnemonic := "SETUP", matchBits := 0x00000000, mask := 0x000000FF },
    { mnemonic := "PUSH", matchBits := 0x00000001, mask := 0xFFFFFFFF },
    { mnemonic := "POP", matchBits := 0x00000002, mask := 0xFFFFFFFF },
    { mnemonic := "IS_EMPTY", matchBits := 0x00000003, mask := 0xFFFFFFFF } ]

/-- A word matches a row where it equals the row's pattern on the row's mask. -/
def OpRow.covers (r : OpRow) (w : CmdWord) : Bool := (w &&& r.mask) == r.matchBits

/-- The mnemonic of a command, as the opcode map of 30_encoding.md R72 spells it. -/
def Instr.mnemonic : Instr → String
  | .setup _ => "SETUP"
  | .push => "PUSH"
  | .pop => "POP"
  | .isEmpty => "IS_EMPTY"

/-- The command word whose low `nbits` bits are those of `w`, the bits above 0. -/
def tableWord (nbits w : Nat) : CmdWord := BitVec.ofNat 32 (w % 2 ^ nbits)

/-- The command the decoder reads from an opcode-table word of `nbits` bits. A command word is one
32-bit word that arrives on a port, so no byte order enters (30_encoding.md R70). Log 14. -/
def decodeTableWord (nbits w : Nat) : Option Instr :=
  if nbits ≤ 32 then (decode (tableWord nbits w)).toOption else none

end Sys2Proof
end

