-- ==== Sys2Proof/Machine/State.lean ====
section
/-! DEFINITION. The state of the block: every register of 10_state.md R21, the storage of 20_memory.md
R50, the presented requests and emitted responses of its ports, and the model's own account of what the
agents, the scheduler and the reset input do next. Plain data throughout. -/

namespace Sys2Proof.Machine

/-- STATE, 10_state.md R21. Code 11 is never held and has no constructor. -/
inductive BlockState where
  /-- 00: no SETUP since reset. -/
  | uncfg
  /-- 01: configured. -/
  | ready
  /-- 10: halted by a fault. -/
  | halted
deriving DecidableEq, Repr

/-- FAULT_CAUSE, 60_exceptions.md R141. Codes 6 and 7 are never recorded and have no constructor. -/
inductive Cause where
  /-- 0: no fault since reset. -/
  | none
  /-- 1: SETUP with an illegal capacity. -/
  | cfgCapacity
  /-- 2: PUSH or POP while STATE = UNCFG. -/
  | notConfigured
  /-- 3: SETUP while a PUSH or POP is in flight. -/
  | setupBusy
  /-- 4: an illegal command word. -/
  | illegalEncoding
  /-- 5: a legal command on a port that may not issue it. -/
  | wrongPort
deriving DecidableEq, Repr

/-- PHASE[CTRL]: always IDLE, because SETUP is one micro-step (10_state.md R21). -/
inductive CtrlPhase where
  | idle
deriving DecidableEq, Repr

/-- PHASE[PROD]: the position of PROD's command in flight (10_state.md R21, R32). -/
inductive ProdPhase where
  /-- No command in flight. -/
  | idle
  /-- PUSH.W is next. -/
  | puW
  /-- PUSH.P is next. -/
  | puP
deriving DecidableEq, Repr

/-- PHASE[CONS]: the position of CONS's command in flight (10_state.md R21, R32). -/
inductive ConsPhase where
  /-- No command in flight. -/
  | idle
  /-- POP.R is next. -/
  | poR
  /-- POP.P is next. -/
  | poP
deriving DecidableEq, Repr

/-- A response RSP[1:0], 30_encoding.md R77. Code 11 is never produced and has no constructor. -/
inductive Rsp where
  /-- 00: done, false. -/
  | doneFalse
  /-- 01: done, true. -/
  | doneTrue
  /-- 10: fault. -/
  | fault
deriving DecidableEq, Repr

/-- A response event: RSP = `rsp` emitted on port `port` (30_encoding.md R76, R77). -/
structure Response where
  port : Port
  rsp : Rsp
deriving DecidableEq, Repr

/-- A request (CMD, OPND); the port it arrives on is where State holds it (30_encoding.md R70). -/
structure Request (p : Params) where
  cmd : CmdWord
  opnd : Opnd p
deriving DecidableEq, Repr

/-- What the outside world does between or at micro-steps (60_exceptions.md R151, 70_reset_and_hazards.md
R170). The list of coming events is the model's own (DESIGN CHOICE, log 2): every finite schedule of the
three agents, of their requests and of the reset input is such a list. -/
inductive Event (p : Params) where
  /-- The agent of port `q` presents a request. -/
  | present (q : Port) (r : Request p)
  /-- Port `q` takes its next micro-step. -/
  | run (q : Port)
  /-- The reset input is applied. -/
  | reset
deriving DecidableEq, Repr

/-- The storage: the slots that some PUSH.W has written, by slot address, in one canonical form
(`Memory.wf`). A slot that is not listed holds no value (20_memory.md R56, R57; log 10). -/
abbrev Memory (p : Params) := List (Nat × Elem p)

/-- Slot addresses strictly rise from `lo` on, and each is below 2^AW. -/
def Memory.wfFrom {p : Params} (lo : Nat) : Memory p → Bool
  | [] => true
  | (a, _) :: m => decide (lo ≤ a) && decide (a < 2 ^ p.aw) && Memory.wfFrom (a + 1) m

/-- The canonical form: addresses strictly rising and inside the address space. An unlisted slot holds
no value, so no entry can equal what an unlisted slot holds. -/
def Memory.wf {p : Params} (m : Memory p) : Bool := Memory.wfFrom 0 m

/-- The block with parameters `p`, its storage and its ports. -/
@[ext] structure Block (p : Params) where
  /-- WR_IDX: index of the slot the next successful PUSH writes. -/
  wrIdx : Idx p
  /-- RD_IDX: index of the slot the next successful POP reads. -/
  rdIdx : Idx p
  /-- MASK = C - 1. -/
  mask : Idx p
  /-- BASE: slot address of slot 0. -/
  base : Addr p
  /-- STATE. -/
  state : BlockState
  /-- FAULT_CAUSE: cause of the first fault since reset. -/
  faultCause : Cause
  /-- FAULT_PORT: issuing port of the first fault; none is code 0. -/
  faultPort : Option Port
  /-- FAULT_CMD: command word of the first fault. -/
  faultCmd : CmdWord
  /-- PHASE[CTRL]. -/
  phaseCtrl : CtrlPhase
  /-- PHASE[PROD]. -/
  phaseProd : ProdPhase
  /-- PHASE[CONS]. -/
  phaseCons : ConsPhase
  /-- PL_W: WR_IDX as PUSH.S sampled it. -/
  plW : Idx p
  /-- PL_NW: Next(PL_W). -/
  plNW : Idx p
  /-- PL_D: the element being pushed. -/
  plD : Elem p
  /-- CL_R: RD_IDX as POP.S sampled it. -/
  clR : Idx p
  /-- CL_NR: Next(CL_R). -/
  clNR : Idx p
  /-- CL_D: the element POP.R read. -/
  clD : Elem p
  /-- POP_DATA: the pop destination. -/
  popData : Elem p
  /-- A successful POP has written POP_DATA since reset. Until then POP_DATA is unspecified, and the
  observation interface faults on it (00_scope.md R11, 10_state.md R21, R31). The model's own field
  (DESIGN CHOICE, log 9). -/
  popWritten : Bool
  /-- The storage, 20_memory.md R50. -/
  storage : Memory p
  /-- The request presented on CTRL and not yet accepted (30_encoding.md R70, R76). -/
  reqCtrl : Option (Request p)
  /-- The request presented on PROD and not yet accepted. -/
  reqProd : Option (Request p)
  /-- The request presented on CONS and not yet accepted. -/
  reqCons : Option (Request p)
  /-- The port whose micro-step is being taken; the model's own (DESIGN CHOICE, log 6). -/
  turn : Port
  /-- The operand bus OPND of the request being accepted; the model's own (DESIGN CHOICE, log 6). -/
  opnd : Opnd p
  /-- The response events emitted so far, oldest first; the model's own log of an output
  (DESIGN CHOICE, log 7). -/
  responses : List Response
  /-- What the outside world does next, in order; the model's own (DESIGN CHOICE, log 2). -/
  events : List (Event p)
  /-- How many free scheduling choices have been drawn; the model's own (DESIGN CHOICE, log 3). -/
  draws : Nat
deriving DecidableEq, Repr

/-- The whole state: the implementation parameters, which no step changes (00_scope.md R5; log 1), and
the block with those parameters. -/
structure State where
  par : Params
  blk : Block par
deriving DecidableEq, Repr

/-- Why the model stops. Neither is a fault of the hardware: those are `Cause`s, and taking one is a
next state (60_exceptions.md R143). -/
inductive Fault where
  /-- Raised by POP.R where the slot it reads has not been written by any PUSH.W. Safe: 20_memory.md R57
  lets a model "fault on a read of one; that fault is never reached". -/
  | unwrittenSlot
  /-- Answered by an observation read of POP_DATA before the first successful POP since reset, because the
  spec says so: "POP_DATA (a fault if unspecified, 00_scope.md rule R11)" (10_state.md R31). No step and no
  command raises it. Safe. -/
  | popDataUnspecified
deriving DecidableEq, Repr

/-- Why the model gives a command no meaning. -/
inductive Refusal where
  /-- Raised by `exec` for a command that has no meaning yet. No command is left so. Safe. -/
  | notModelled (mnemonic : String)
deriving DecidableEq, Repr

/-- What a micro-step of the block answers. -/
abbrev BlockOutcome (p : Params) := Host.Outcome (Block p) Fault Refusal

/-- What a step of the machine answers. -/
abbrev StateOutcome := Host.Outcome State Fault Refusal

/-- The block with parameters `p` right after reset: the values of 10_state.md R21 and
70_reset_and_hazards.md R170. The six latches and POP_DATA are unspecified there and are 0 here (DESIGN
CHOICE, logs 8 and 9); the storage lists no slot (log 10); the model's own fields are empty, CTRL, false or
0 (logs 2, 3, 6, 7, 9). -/
def Block.initial (p : Params) : Block p where
  wrIdx := 0
  rdIdx := 0
  mask := 0
  base := 0
  state := .uncfg
  faultCause := .none
  faultPort := none
  faultCmd := 0
  phaseCtrl := .idle
  phaseProd := .idle
  phaseCons := .idle
  plW := 0
  plNW := 0
  plD := 0
  clR := 0
  clNR := 0
  clD := 0
  popData := 0
  popWritten := false
  storage := []
  reqCtrl := none
  reqProd := none
  reqCons := none
  turn := .ctrl
  opnd := 0
  responses := []
  events := []
  draws := 0

/-- The machine with parameters `p` right after reset. -/
def State.resetWith (p : Params) : State := { par := p, blk := Block.initial p }

/-- The machine right after reset, with the default parameters of 00_scope.md R5. -/
def State.reset : State := State.resetWith Params.defaults

end Sys2Proof.Machine
end

