-- ==== Sys2Proof/Machine/Operands.lean ====
section
/-! DEFINITION. Operand assembly (30_encoding.md R73), the circular successor (10_state.md R25), the
circular-address generator (20_memory.md R51) and capacity legality (40_setup.md R101). -/

namespace Sys2Proof.Machine

/-- SETUP's storage handle: OPND[AW-1:0]; the bits above are ignored (30_encoding.md R73). -/
def opndBase {p : Params} (o : Opnd p) : Addr p := o.setWidth p.aw

/-- PUSH's element: OPND[DATA_W-1:0]; the bits above are ignored (30_encoding.md R73). -/
def opndElem {p : Params} (o : Opnd p) : Elem p := o.setWidth p.dataW

/-- CapLegal(cap): non-zero, a power of two, at most 2^CAP_MAX_LOG2 (40_setup.md R101, 00_scope.md R10). -/
def capLegal (p : Params) (cap : Nat) : Bool :=
  cap != 0 && (cap &&& (cap - 1)) == 0 && decide (cap ≤ 2 ^ p.capMaxLog2)

/-- zext_IDX_W(cap - 1), the MASK a SETUP writes (40_setup.md R100). -/
def maskOf (p : Params) (cap : Nat) : Idx p := BitVec.ofNat p.idxW (cap - 1)

/-- Next(i) = ((i + 1) mod 2^IDX_W) AND MASK (10_state.md R25). -/
def Block.next {p : Params} (b : Block p) (i : Idx p) : Idx p := (i + 1) &&& b.mask

/-- SlotAddr(i) = (BASE + zext_AW(i AND MASK)) mod 2^AW (20_memory.md R51). -/
def Block.slotAddr {p : Params} (b : Block p) (i : Idx p) : Addr p := b.base + (i &&& b.mask).setWidth p.aw

/-- C = MASK + 1, the capacity (00_scope.md R7). -/
def Block.capacity {p : Params} (b : Block p) : Nat := b.mask.toNat + 1

end Sys2Proof.Machine
end

