-- ==== Sys2Proof/Machine/Flags.lean ====
section
/-! DEFINITION. The comparators (10_state.md R23, R24), the codes of the control registers (10_state.md
R21, 60_exceptions.md R141), the STATUS word and the observation interface (10_state.md R31). The block
has no flags register (10_state.md R34). -/

namespace Sys2Proof.Machine

/-- EMPTY = (RD_IDX == WR_IDX), 10_state.md R23. -/
def Block.empty {p : Params} (b : Block p) : Bool := b.rdIdx == b.wrIdx

/-- FULL = (Next(WR_IDX) == RD_IDX), 10_state.md R24. -/
def Block.full {p : Params} (b : Block p) : Bool := b.next b.wrIdx == b.rdIdx

/-- The 2-bit code of STATE (10_state.md R21). -/
def BlockState.code : BlockState → BitVec 2
  | .uncfg => 0
  | .ready => 1
  | .halted => 2

/-- The 3-bit code of FAULT_CAUSE (60_exceptions.md R141). -/
def Cause.code : Cause → BitVec 3
  | .none => 0
  | .cfgCapacity => 1
  | .notConfigured => 2
  | .setupBusy => 3
  | .illegalEncoding => 4
  | .wrongPort => 5

/-- RSP[1:0]: bit 0 is OK, bit 1 is FAULT (30_encoding.md R77). -/
def Rsp.code : Rsp → BitVec 2
  | .doneFalse => 0
  | .doneTrue => 1
  | .fault => 2

/-- The response "done" with the boolean result `ok`: {0, ok} (30_encoding.md R77). -/
def Rsp.done (ok : Bool) : Rsp := if ok then .doneTrue else .doneFalse

/-- The STATUS word of 10_state.md R31: reserved[31:9], FAULT_PORT[8:7], FULL[6], EMPTY[5],
FAULT_CAUSE[4:2], STATE[1:0]. -/
def Block.status {p : Params} (b : Block p) : BitVec 32 :=
  (0 : BitVec 23) ++ Port.code b.faultPort ++ BitVec.ofBool b.full ++ BitVec.ofBool b.empty
    ++ b.faultCause.code ++ b.state.code

/-- What the observation interface exposes (10_state.md R31). -/
inductive Obs where
  | wrIdx
  | rdIdx
  | mask
  | base
  | state
  | faultCause
  | faultPort
  | faultCmd
  | popData
  | status
deriving DecidableEq, Repr

/-- The width of an observed value (10_state.md R21, R31). -/
def Obs.width (p : Params) : Obs → Nat
  | .wrIdx => p.idxW
  | .rdIdx => p.idxW
  | .mask => p.idxW
  | .base => p.aw
  | .state => 2
  | .faultCause => 3
  | .faultPort => 2
  | .faultCmd => 32
  | .popData => p.dataW
  | .status => 32

/-- An observation read of POP_DATA: "a fault if unspecified" (10_state.md R31, 00_scope.md R11), that is
before the first successful POP since reset (70_reset_and_hazards.md R178). -/
def Block.observePopData {p : Params} (b : Block p) : Except Fault (Elem p) :=
  if b.popWritten then .ok b.popData else .error .popDataUnspecified

/-- The observation interface: a read without side effects at a micro-step boundary (10_state.md R31).
Nothing on it is writable. Log 20. -/
def Block.observe {p : Params} (b : Block p) (o : Obs) : Except Fault (BitVec (o.width p)) :=
  match o with
  | .wrIdx => .ok b.wrIdx
  | .rdIdx => .ok b.rdIdx
  | .mask => .ok b.mask
  | .base => .ok b.base
  | .state => .ok b.state.code
  | .faultCause => .ok b.faultCause.code
  | .faultPort => .ok (Port.code b.faultPort)
  | .faultCmd => .ok b.faultCmd
  | .popData => b.observePopData
  | .status => .ok b.status

end Sys2Proof.Machine
end

