-- ==== Sys2Proof/Machine/Ops.lean ====
section
/-! DEFINITION. The shared operations: the storage primitives (00_scope.md R12, 20_memory.md R52), the
ports' phases and requests, completing a command (30_encoding.md R77), the acceptance checks
(60_exceptions.md R142), fault entry (R143), abandoning (R145), and reset, the only way out of HALTED
(R146, 70_reset_and_hazards.md R170). -/

namespace Sys2Proof.Machine

/-- MemRead(a, 1) of a slot by its number; `none` where no PUSH.W has written it (20_memory.md R52, R56). -/
def Memory.get {p : Params} (n : Nat) : Memory p → Option (Elem p)
  | [] => none
  | (k, v) :: m => if k = n then some v else Memory.get n m

/-- MemWrite(a, 1, v) of a slot by its number, keeping the canonical form (20_memory.md R52). -/
def Memory.put {p : Params} (n : Nat) (d : Elem p) : Memory p → Memory p
  | [] => [(n, d)]
  | (k, v) :: m => if n < k then (n, d) :: (k, v) :: m else if n = k then (n, d) :: m else (k, v) :: Memory.put n d m

/-- MemRead(a, 1), 00_scope.md R12. -/
def Memory.read {p : Params} (m : Memory p) (a : Addr p) : Option (Elem p) := m.get a.toNat

/-- MemWrite(a, 1, v), 00_scope.md R12. -/
def Memory.write {p : Params} (m : Memory p) (a : Addr p) (d : Elem p) : Memory p := m.put a.toNat d

variable {p : Params}

/-- The request presented on port `q` and not yet accepted. -/
def Block.request (b : Block p) : Port → Option (Request p)
  | .ctrl => b.reqCtrl
  | .prod => b.reqProd
  | .cons => b.reqCons

/-- Replace the request presented on port `q`. -/
def Block.setRequest (b : Block p) (q : Port) (r : Option (Request p)) : Block p :=
  match q with
  | .ctrl => { b with reqCtrl := r }
  | .prod => { b with reqProd := r }
  | .cons => { b with reqCons := r }

/-- PHASE[q] != IDLE: port `q` has a command in flight (10_state.md R32). -/
def Block.busy (b : Block p) : Port → Bool
  | .ctrl => b.phaseCtrl != .idle
  | .prod => b.phaseProd != .idle
  | .cons => b.phaseCons != .idle

/-- PHASE[q] <- IDLE. -/
def Block.setIdle (b : Block p) (q : Port) : Block p :=
  match q with
  | .ctrl => { b with phaseCtrl := .idle }
  | .prod => { b with phaseProd := .idle }
  | .cons => { b with phaseCons := .idle }

/-- complete(q, rsp): emit RSP = rsp on port `q` and set PHASE[q] <- IDLE (00_scope.md R13, 30_encoding.md R77). -/
def Block.complete (b : Block p) (q : Port) (rsp : Rsp) : Block p :=
  { b.setIdle q with responses := b.responses ++ [{ port := q, rsp := rsp }] }

/-- raise Fault(c) at port `q` with command word `cmd`: fault entry, 60_exceptions.md R143. -/
def Block.raise (b : Block p) (q : Port) (c : Cause) (cmd : CmdWord) : Block p :=
  Block.complete { b with state := .halted, faultCause := c, faultPort := some q, faultCmd := cmd } q .fault

/-- A micro-step of a command in flight on port `q`, whose effects are `run`: abandoned, with none of its
effects, if STATE = HALTED (60_exceptions.md R145). -/
def Block.continuing (b : Block p) (q : Port) (run : BlockOutcome p) : BlockOutcome p :=
  if b.state = .halted then .next (b.complete q .fault) else run

/-- Port permissions, 30_encoding.md R75. -/
def permitted : Instr → Port → Bool
  | .setup _, q => q == .ctrl
  | .push, q => q == .prod
  | .pop, q => q == .cons
  | .isEmpty, q => q == .prod || q == .cons

/-- OP in {PUSH, POP}: the commands that need a SETUP first (60_exceptions.md R142, check 4). -/
def needsSetup : Instr → Bool
  | .setup _ => false
  | .push => true
  | .pop => true
  | .isEmpty => false

/-- Checks 5 and 6 of 60_exceptions.md R142, which only SETUP makes; `Cause.none` where neither applies. -/
def Block.setupCheck (b : Block p) : Instr → Cause
  | .setup cap =>
    if b.busy .prod || b.busy .cons then .setupBusy
    else if capLegal p cap then .none
    else .cfgCapacity
  | .push => .none
  | .pop => .none
  | .isEmpty => .none

/-- Checks 3 to 6 of 60_exceptions.md R142 for command `i` on port `q`, in order: the first that applies,
`Cause.none` where none does. (Check 1 is in `Block.accept`; check 2 is the decoder's, in Machine/Turn.lean.) -/
def Block.acceptCheck (b : Block p) (q : Port) (i : Instr) : Cause :=
  if !permitted i q then .wrongPort
  else if needsSetup i && b.state == .uncfg then .notConfigured
  else b.setupCheck i

/-- Acceptance of command `i` on the port whose turn it is (60_exceptions.md R142): in HALTED it responds
10 and changes nothing (R144); a check that applies raises its fault; otherwise the command's first
micro-step `first` runs. FAULT_CMD is the command's word, `encode i` (log 21). -/
def Block.accept (b : Block p) (i : Instr) (first : Block p) : Block p :=
  if b.state = .halted then b.complete b.turn .fault
  else match b.acceptCheck b.turn i with
    | .none => first
    | .cfgCapacity => b.raise b.turn .cfgCapacity (encode i)
    | .notConfigured => b.raise b.turn .notConfigured (encode i)
    | .setupBusy => b.raise b.turn .setupBusy (encode i)
    | .illegalEncoding => b.raise b.turn .illegalEncoding (encode i)
    | .wrongPort => b.raise b.turn .wrongPort (encode i)

/-- Reset, 70_reset_and_hazards.md R170: every register to its reset value, every presented request
discarded, every command in flight abandoned without a response, the storage untouched. The
latches and POP_DATA become unspecified and are 0 here (logs 8 and 9). The responses already emitted stay
emitted (log 7). -/
def Block.reset (b : Block p) : Block p :=
  { b with
    wrIdx := 0
    rdIdx := 0
    mask := 0
    base := 0
    state := .uncfg
    faultCause := .none
    faultPort := none
    faultCmd := 0
    phaseCtrl := .idle
    phaseProd := .idle
    phaseCons := .idle
    plW := 0
    plNW := 0
    plD := 0
    clR := 0
    clNR := 0
    clD := 0
    popData := 0
    popWritten := false
    reqCtrl := none
    reqProd := none
    reqCons := none }

/-- A block's outcome as the machine's: the parameters stay as they are. -/
def BlockOutcome.toState (o : BlockOutcome p) : StateOutcome :=
  match o with
  | .next b => .next { par := p, blk := b }
  | .fault f => .fault f
  | .refused r => .refused r

end Sys2Proof.Machine
end

