-- ==== Sys2Proof/Machine/IsEmpty.lean ====
section
/-! DEFINITION. IS_EMPTY, the observation command (43_is_empty.md). -/

namespace Sys2Proof.Machine

/-- IS_EMPTY's one micro-step: RSP = {0, EMPTY} on the port it was issued on (43_is_empty.md R130). -/
def Block.reportEmpty {p : Params} (b : Block p) : Block p := b.complete b.turn (.done b.empty)

/-- IS_EMPTY (43_is_empty.md R130, after the checks of 60_exceptions.md R142). -/
def execIsEmpty (s : State) : StateOutcome :=
  .next { par := s.par, blk := s.blk.accept .isEmpty s.blk.reportEmpty }

end Sys2Proof.Machine
end

