-- ==== Sys2Proof/Machine/Pop.lean ====
section
/-! DEFINITION. POP, the consumer command: POP.S, POP.R, POP.P (42_pop.md). -/

namespace Sys2Proof.Machine

variable {p : Params}

/-- POP.S: sample the indices and test for empty (42_pop.md R120). -/
def Block.popS (b : Block p) : Block p :=
  if b.rdIdx = b.wrIdx then b.complete .cons .doneFalse
  else { b with clR := b.rdIdx, clNR := b.next b.rdIdx, phaseCons := .poR }

/-- POP.R: read the head element from its slot (42_pop.md R121). The model's fault on a slot that no
PUSH.W has written is never reached (20_memory.md R57; log 10). -/
def Block.popR (b : Block p) : BlockOutcome p :=
  match b.storage.read (b.slotAddr b.clR) with
  | none => .fault .unwrittenSlot
  | some d => .next { b with clD := d, phaseCons := .poP }

/-- POP.P: deliver the element and publish the new read index (42_pop.md R122). -/
def Block.popP (b : Block p) : Block p :=
  Block.complete { b with popData := b.clD, popWritten := true, rdIdx := b.clNR } .cons .doneTrue

/-- The next micro-step of POP on the port whose turn it is: the one PHASE[CONS] names where the turn is
CONS's (10_state.md R32), else acceptance, which answers WRONG_PORT. Log 13. -/
def Block.popStep (b : Block p) : BlockOutcome p :=
  if b.turn = .cons then
    match b.phaseCons with
    | .idle => .next (b.accept .pop b.popS)
    | .poR => b.continuing .cons b.popR
    | .poP => b.continuing .cons (.next b.popP)
  else .next (b.accept .pop b.popS)

/-- POP: its next micro-step (42_pop.md R120 to R122). -/
def execPop (s : State) : StateOutcome := s.blk.popStep.toState

end Sys2Proof.Machine
end

