-- ==== Sys2Proof/Machine/Push.lean ====
section
/-! DEFINITION. PUSH, the producer command: PUSH.S, PUSH.W, PUSH.P (41_push.md). -/

namespace Sys2Proof.Machine

variable {p : Params}

/-- PUSH.S: sample the indices and test for full (41_push.md R110). -/
def Block.pushS (b : Block p) : Block p :=
  if b.next b.wrIdx = b.rdIdx then b.complete .prod .doneFalse
  else { b with plW := b.wrIdx, plNW := b.next b.wrIdx, plD := opndElem b.opnd, phaseProd := .puW }

/-- PUSH.W: write the element into its slot (41_push.md R111). -/
def Block.pushW (b : Block p) : Block p :=
  { b with storage := b.storage.write (b.slotAddr b.plW) b.plD, phaseProd := .puP }

/-- PUSH.P: publish the new write index (41_push.md R112). -/
def Block.pushP (b : Block p) : Block p :=
  Block.complete { b with wrIdx := b.plNW } .prod .doneTrue

/-- The next micro-step of PUSH on the port whose turn it is: the one PHASE[PROD] names where the turn is
PROD's (10_state.md R32), else acceptance, which answers WRONG_PORT. Log 13. -/
def Block.pushStep (b : Block p) : BlockOutcome p :=
  if b.turn = .prod then
    match b.phaseProd with
    | .idle => .next (b.accept .push b.pushS)
    | .puW => b.continuing .prod (.next b.pushW)
    | .puP => b.continuing .prod (.next b.pushP)
  else .next (b.accept .push b.pushS)

/-- PUSH: its next micro-step (41_push.md R110 to R112). -/
def execPush (s : State) : StateOutcome := s.blk.pushStep.toState

end Sys2Proof.Machine
end

