-- ==== Sys2Proof/Machine/Setup.lean ====
section
/-! DEFINITION. SETUP: bind the storage and capacity, and zero both indices (40_setup.md). -/

namespace Sys2Proof.Machine

/-- SETUP's one micro-step with a legal capacity (40_setup.md R100). -/
def Block.setup {p : Params} (b : Block p) (cap : Nat) : Block p :=
  Block.complete
    { b with base := opndBase b.opnd, mask := maskOf p cap, wrIdx := 0, rdIdx := 0, state := .ready }
    .ctrl .doneTrue

/-- SETUP (40_setup.md R100, after the checks of 60_exceptions.md R142; check 6 is its capacity check). -/
def execSetup (cap : Nat) (s : State) : StateOutcome :=
  .next { par := s.par, blk := s.blk.accept (.setup cap) (s.blk.setup cap) }

end Sys2Proof.Machine
end

