-- ==== Sys2Proof/Machine/Dispatch.lean ====
section
/-! DEFINITION. Which meaning each command has: one micro-step of it on the port whose turn it is. -/

namespace Sys2Proof.Machine

def exec (i : Instr) (s : State) : Host.Outcome State Fault Refusal :=
  match i with
  | .setup cap => Sys2Proof.Machine.execSetup cap s
  | .push => Sys2Proof.Machine.execPush s
  | .pop => Sys2Proof.Machine.execPop s
  | .isEmpty => Sys2Proof.Machine.execIsEmpty s

end Sys2Proof.Machine
end

