-- ==== Sys2Proof/Machine/Turn.lean ====
section
/-! DEFINITION. What happens next: a port takes its turn (60_exceptions.md R142, R151), an agent presents
a request, or the reset input is applied (70_reset_and_hazards.md R170). -/

namespace Sys2Proof.Machine

variable {p : Params}

/-- Port `q` accepts the request `r`: the request is no longer presented, the turn is `q`'s, and OPND is
on the operand bus. -/
def Block.take (b : Block p) (q : Port) (r : Request p) : Block p :=
  { b.setRequest q none with turn := q, opnd := r.opnd }

/-- Checks 1 and 2 of 60_exceptions.md R142 on a word that does not decode: in HALTED it responds 10 and
changes nothing (R144), otherwise it is an ILLEGAL_ENCODING fault. -/
def Block.acceptIllegal (b : Block p) (cmd : CmdWord) : Block p :=
  if b.state = .halted then b.complete b.turn .fault else b.raise b.turn .illegalEncoding cmd

/-- Acceptance of a request on port `q` (60_exceptions.md R142): checks 1 to 6 and the command's first
micro-step, as one atomic micro-step. -/
def State.accept (s : State) (q : Port) (r : Request s.par) : StateOutcome :=
  match decode r.cmd with
  | .error _ => .next { par := s.par, blk := (s.blk.take q r).acceptIllegal r.cmd }
  | .ok i => exec i { par := s.par, blk := s.blk.take q r }

/-- The command in flight on port `q` where PHASE[q] != IDLE: PUSH on PROD, POP on CONS (10_state.md R32).
CTRL never has one; SETUP stands there only to make the function total. -/
def inFlight : Port → Instr
  | .ctrl => .setup 0
  | .prod => .push
  | .cons => .pop

/-- Port `q` takes its turn: the next micro-step of its command in flight, or acceptance of the request
presented on it, or nothing where it has neither (60_exceptions.md R142, R151; the void turn is log 4). -/
def State.takeTurn (s : State) (q : Port) : StateOutcome :=
  if s.blk.busy q then exec (inFlight q) { par := s.par, blk := { s.blk with turn := q } }
  else match s.blk.request q with
    | none => .next s
    | some r => s.accept q r

/-- Port `q` has an enabled micro-step (60_exceptions.md R151). -/
def Block.enabled (b : Block p) (q : Port) : Bool := b.busy q || (b.request q).isSome

/-- The enabled ports. -/
def Block.enabledPorts (b : Block p) : List Port := [Port.ctrl, Port.prod, Port.cons].filter b.enabled

/-- The free choice among the enabled ports where no scheduled turn is given (60_exceptions.md R151; log 3). -/
def choosePort (draw : Nat) : List Port → Option Port
  | [] => none
  | [q] => some q
  | q :: q' :: qs => some ((q :: q' :: qs).getD (Config.freeTurn draw % (q :: q' :: qs).length) q)

/-- The port that a free choice gives the next turn. -/
def Block.freePort (b : Block p) : Option Port := choosePort b.draws b.enabledPorts

/-- A turn whose port is a free choice; nothing happens where no port is enabled (log 4). -/
def State.freeTurn (s : State) : StateOutcome :=
  match s.blk.freePort with
  | none => .next s
  | some q => State.takeTurn { par := s.par, blk := { s.blk with draws := s.blk.draws + 1 } } q

/-- The agent of port `q` presents a request. It presents one request at a time (10_state.md R20): while
the one before is not yet accepted the event waits, and the ports go on by free choice (log 5). -/
def State.present (s : State) (q : Port) (r : Request s.par) (rest : List (Event s.par)) : StateOutcome :=
  match s.blk.request q with
  | some _ => s.freeTurn
  | none => .next { par := s.par, blk := { s.blk.setRequest q (some r) with events := rest } }

/-- What happens next: the next event of the environment, or a turn of a freely chosen port where no
event is given (60_exceptions.md R151, 70_reset_and_hazards.md R170; log 2). -/
def State.advance (s : State) : StateOutcome :=
  match s.blk.events with
  | [] => s.freeTurn
  | .present q r :: rest => s.present q r rest
  | .run q :: rest => State.takeTurn { par := s.par, blk := { s.blk with events := rest } } q
  | .reset :: rest => .next { par := s.par, blk := { s.blk.reset with events := rest } }

/-- The port a command word is presented on where nothing else says so: one that may issue it
(30_encoding.md R75). An illegal word goes by its OP bits. Log 14. -/
def homePort (w : CmdWord) : Port :=
  if opField w = 0 then .ctrl else if opField w = 1 then .prod else .cons

/-- The request with command word `w` and OPND 0 is presented on the word's home port, which is idle and
takes the next turn. Log 14. -/
def Block.withCommand (b : Block p) (w : CmdWord) : Block p :=
  { (b.setIdle (homePort w)).setRequest (homePort w) (some { cmd := w, opnd := 0 }) with
    events := .run (homePort w) :: b.events }

end Sys2Proof.Machine
end

