-- ==== Sys2Proof/Machine/Step.lean ====
section
/-! DEFINITION. One step of the machine: one micro-step of one port, or one event of its environment
(00_scope.md R14, 60_exceptions.md R151). -/

namespace Sys2Proof.Machine

/-- One step. -/
def step (s : State) : Host.Outcome State Fault Refusal := s.advance

/-- `s` with the command word `w` (its low `nbits` bits) as the very next thing that runs: the block
fetches nothing, so the word is presented on a port that may issue it and that port has the next turn.
Log 14. -/
def State.withFetchWord (s : State) (nbits w : Nat) : State :=
  { par := s.par, blk := s.blk.withCommand (tableWord nbits w) }

end Sys2Proof.Machine
end

