-- ==== Sys2Proof/Machine/Assembler.lean ====
section
/-! DEFINITION. The command lines of 30_encoding.md R78, as data: which request each line presents on
which port. There are no pseudo-instructions (R79). -/

namespace Sys2Proof.Machine

/-- The operands and mnemonic of a line (30_encoding.md R78). -/
inductive LineForm where
  /-- `SETUP cap, base`. -/
  | setup (cap base : Nat)
  /-- `PUSH value`. -/
  | push (value : Nat)
  /-- `POP`. -/
  | pop
  /-- `IS_EMPTY`. -/
  | isEmpty
  /-- `.word cmd, opnd`: the given word, for illegal encodings too. -/
  | word (cmd : CmdWord) (opnd : Nat)
deriving DecidableEq, Repr

/-- A line `<port>: <form>` (30_encoding.md R78). -/
structure Line where
  port : Port
  form : LineForm
deriving DecidableEq, Repr

/-- The letter of a port: K (CTRL), P (PROD), C (CONS). -/
def portLetter : Port → Char
  | .ctrl => 'K'
  | .prod => 'P'
  | .cons => 'C'

/-- The lines R78 lists, with operands that fit CAPF and the operand bus. -/
def Line.wf (p : Params) (l : Line) : Bool :=
  match l.form with
  | .setup cap base => l.port == .ctrl && decide (cap < 2 ^ 24) && decide (base < 2 ^ p.opndW)
  | .push value => l.port == .prod && decide (value < 2 ^ p.opndW)
  | .pop => l.port == .cons
  | .isEmpty => l.port == .prod || l.port == .cons
  | .word _ opnd => decide (opnd < 2 ^ p.opndW)

/-- CMD of a line (30_encoding.md R78). -/
def Line.cmd (l : Line) : CmdWord :=
  match l.form with
  | .setup cap _ => BitVec.ofNat 32 cap <<< 8
  | .push _ => 0x00000001
  | .pop => 0x00000002
  | .isEmpty => 0x00000003
  | .word cmd _ => cmd

/-- OPND of a line (30_encoding.md R78). -/
def Line.opnd (p : Params) (l : Line) : Opnd p :=
  match l.form with
  | .setup _ base => BitVec.ofNat p.opndW base
  | .push value => BitVec.ofNat p.opndW value
  | .pop => 0
  | .isEmpty => 0
  | .word _ opnd => BitVec.ofNat p.opndW opnd

/-- The request a line presents. -/
def Line.request (p : Params) (l : Line) : Request p := { cmd := l.cmd, opnd := l.opnd p }

/-- The line as an event: its agent presents the request. -/
def Line.event (p : Params) (l : Line) : Event p := .present l.port (l.request p)

end Sys2Proof.Machine
end

