-- ==== Sys2Proof/Safety.lean ====
section
/-! DEFINITION. The terms in which claims about runs are made: occupancy and the abstract queue
(10_state.md R27, R29), the invariant of reachable states, the platform's preconditions (20_memory.md R55,
R60), what a step publishes and delivers, histories, fairness (60_exceptions.md R151), and scripts of
events. -/

namespace Sys2Proof.Machine

variable {p : Params}

/-- n = (WR_IDX - RD_IDX) mod C, 10_state.md R27. -/
def Block.occupancy (b : Block p) : Nat :=
  (b.wrIdx.toNat + b.capacity - b.rdIdx.toNat) % b.capacity

/-- (RD_IDX + k) mod C, the index of the k-th oldest element (10_state.md R29). -/
def Block.liveIdx (b : Block p) (k : Nat) : Idx p :=
  BitVec.ofNat p.idxW ((b.rdIdx.toNat + k) % b.capacity)

/-- The abstract queue Q of 10_state.md R29, oldest first: what the storage holds in the live slots. -/
def Block.queue (b : Block p) : List (Option (Elem p)) :=
  (List.range b.occupancy).map fun k => b.storage.read (b.slotAddr (b.liveIdx k))

/-- The index `i` is one of the live ones, those from RD_IDX up to but excluding WR_IDX (00_scope.md R16). -/
def Block.Live (b : Block p) (i : Idx p) : Prop := ∃ k, k < b.occupancy ∧ i = b.liveIdx k

/-- What holds in every reachable state of the block, whatever its agents do. -/
structure Block.Inv (b : Block p) : Prop where
  /-- The parameters are legal (00_scope.md R5). -/
  legal : p.Legal
  /-- C = MASK + 1 is a power of two of a legal size (00_scope.md R7). -/
  capacity : ∃ k, k ≤ p.capMaxLog2 ∧ b.capacity = 2 ^ k
  /-- WR_IDX <= MASK (10_state.md R26). -/
  wrRange : b.wrIdx.toNat ≤ b.mask.toNat
  /-- RD_IDX <= MASK (10_state.md R26). -/
  rdRange : b.rdIdx.toNat ≤ b.mask.toNat
  /-- A PUSH in flight holds the current WR_IDX and its successor, and the buffer is not full (20_memory.md R68). -/
  pushInFlight : b.phaseProd ≠ .idle → b.plW = b.wrIdx ∧ b.plNW = b.next b.wrIdx ∧ b.full = false
  /-- A POP in flight holds the current RD_IDX and its successor, and the buffer is not empty (20_memory.md R68). -/
  popInFlight : b.phaseCons ≠ .idle → b.clR = b.rdIdx ∧ b.clNR = b.next b.rdIdx ∧ b.empty = false
  /-- After PUSH.W the slot of the PUSH in flight holds its element (41_push.md R111). -/
  pushedSlot : b.phaseProd = .puP → b.storage.read (b.slotAddr b.plW) = some b.plD
  /-- After POP.R the latch of the POP in flight holds its slot's element (42_pop.md R121). -/
  poppedSlot : b.phaseCons = .poP → b.storage.read (b.slotAddr b.clR) = some b.clD
  /-- Every live slot has been written (20_memory.md R57). -/
  liveWritten : ∀ e ∈ b.queue, e ≠ none
  /-- The storage keeps its canonical form. -/
  storageForm : b.storage.wf = true
  /-- A fault is recorded exactly while the block is halted, with its cause, port and word (10_state.md
  R21, 60_exceptions.md R143). -/
  faultRecord : if b.state = .halted then b.faultCause ≠ .none ∧ b.faultPort ≠ none
    else b.faultCause = .none ∧ b.faultPort = none ∧ b.faultCmd = 0
  /-- Before the first SETUP the registers hold their reset values and nothing is in flight (10_state.md R21). -/
  unconfigured : b.state = .uncfg → b.mask = 0 ∧ b.base = 0 ∧ b.phaseProd = .idle ∧ b.phaseCons = .idle

/-- The platform's precondition on SETUP: the bound region is backed by memory (20_memory.md R60). The
block does not check it (92_eei_decisions.md D20). A claim about a device on a platform needs it; no step
of the model reads it. That no other agent accesses the region (R55) is structural: the model has none. -/
def PlatformOk (s : State) : Prop :=
  s.blk.state ≠ .uncfg → Config.storageValid s.blk.base.toNat s.blk.capacity = true

/-- The port that takes a turn in the next step, if one does. -/
def Block.selected (b : Block p) : Option Port :=
  match b.events with
  | [] => b.freePort
  | .present q _ :: _ => if (b.request q).isSome then b.freePort else none
  | .run q :: _ => some q
  | .reset :: _ => none

/-- The block once the port that takes the turn is chosen: a scheduled turn is no longer to come, a free
choice has drawn (logs 2 and 3). Nothing else has moved. -/
def Block.turnGiven (b : Block p) : Block p :=
  match b.events with
  | [] => { b with draws := b.draws + 1 }
  | .present _ _ :: _ => { b with draws := b.draws + 1 }
  | .run _ :: rest => { b with events := rest }
  | .reset :: _ => b

/-- The next event is the reset input. -/
def Block.resetting (b : Block p) : Bool :=
  match b.events with
  | [] => false
  | .present _ _ :: _ => false
  | .run _ :: _ => false
  | .reset :: _ => true

/-- The elements the next step publishes: PL_D where it is a PUSH.P that is not abandoned (41_push.md R112). -/
def Block.published (b : Block p) : List (Elem p) :=
  if b.selected = some .prod ∧ b.phaseProd = .puP ∧ b.state ≠ .halted then [b.plD] else []

/-- The elements the next step delivers to POP_DATA: CL_D where it is a POP.P that is not abandoned
(42_pop.md R122). -/
def Block.delivered (b : Block p) : List (Elem p) :=
  if b.selected = some .cons ∧ b.phaseCons = .poP ∧ b.state ≠ .halted then [b.clD] else []

/-- The step from `b` to `b'` is a successful SETUP: it answers 01 on CTRL, which no other command does
(30_encoding.md R75, R77). -/
def Rebinds (b b' : Block p) : Prop :=
  b'.responses = b.responses ++ [{ port := .ctrl, rsp := .doneTrue }]

/-- `b` runs to `b'` without a reset or a successful SETUP, publishing `us` and delivering `vs` on the
way, oldest first. -/
inductive History (b : Block p) : List (Elem p) → List (Elem p) → Block p → Prop where
  | refl : History b [] [] b
  | step {us vs : List (Elem p)} {b' b'' : Block p} (before : History b us vs b')
      (noReset : b'.resetting = false)
      (next : step { par := p, blk := b' } = .next { par := p, blk := b'' })
      (noSetup : ¬ Rebinds b' b'') :
      History b (us ++ b'.published) (vs ++ b'.delivered) b''

/-- Weak fairness of an infinite run: a port whose micro-step stays enabled is eventually scheduled
(60_exceptions.md R151). A step of the model does not enforce it (log 15). -/
def WeaklyFair (run : Nat → Block p) : Prop :=
  ∀ (q : Port) (n : Nat), ∃ m, n ≤ m ∧ ((run m).enabled q = false ∨ (run m).selected = some q)

/-- How many micro-steps a command in flight on `q` has still to take (10_state.md R32). -/
def Block.stepsLeft (b : Block p) : Port → Nat
  | .ctrl => 0
  | .prod => match b.phaseProd with
    | .idle => 0
    | .puW => 2
    | .puP => 1
  | .cons => match b.phaseCons with
    | .idle => 0
    | .poR => 2
    | .poP => 1

/-- 1 where port `q` has a request presented, plus 1 where it has a command in flight, plus the number of
responses it has had: the requests of `q` the block has been given. -/
def Block.accounted (b : Block p) (q : Port) : Nat :=
  (b.request q).isSome.toNat + (b.busy q).toNat + b.responses.countP fun r => r.port == q

/-- The event that presents `PUSH value`, then three turns of PROD: one PUSH with nothing between its
micro-steps. -/
def pushScript (d : Opnd p) : List (Event p) :=
  [.present .prod { cmd := 0x00000001, opnd := d }, .run .prod, .run .prod, .run .prod]

/-- The same state up to what the spec leaves unspecified and no command will still read: each latch may
differ where no command in flight reads it (10_state.md R33), and POP_DATA until a successful POP since reset
has written it (70_reset_and_hazards.md R178). -/
def SameButUnspecified (b b' : Block p) : Prop :=
  b' = { b with
    plW := b'.plW, plNW := b'.plNW, plD := b'.plD, clR := b'.clR, clNR := b'.clNR, clD := b'.clD,
    popData := b'.popData }
    ∧ (b.phaseProd ≠ .idle → b'.plW = b.plW ∧ b'.plNW = b.plNW ∧ b'.plD = b.plD)
    ∧ (b.phaseCons ≠ .idle → b'.clR = b.clR ∧ b'.clNR = b.clNR)
    ∧ (b.phaseCons = .poP → b'.clD = b.clD)
    ∧ (b.popWritten = true → b'.popData = b.popData)

end Sys2Proof.Machine
end

