-- ==== Sys2Proof/Certificates/Slice0/Obligations.lean ====
section
/-! DEFINITION. The statements about the block, from the numbered rules of spec/. `p` stands for the
parameters of 00_scope.md R5 throughout, so each statement holds for every value of them (and for every
LEGAL value where it says so), not for the defaults alone. -/

open Sys2Proof Sys2Proof.Machine

/-! ### Encoding -/

/-- Decoding the word of a well-formed command gives the command back (30_encoding.md R71, R72). -/
def Obligations.DecodeOfEncode : Prop :=
  ∀ i : Instr, i.wf = true → decode (encode i) = .ok i

/-- A word that decodes is the word of its command, and the command is well formed (30_encoding.md R71, R72). -/
def Obligations.EncodeOfDecode : Prop :=
  ∀ (w : CmdWord) (i : Instr), decode w = .ok i → encode i = w ∧ i.wf = true

/-- 30_encoding.md R74: the legality formula decides which words decode, a legal word matches exactly one
row of the opcode map (the one of the command it decodes to) and an illegal word none, and an illegal word
on any port with any operand is an ILLEGAL_ENCODING fault of a block that is not halted. -/
def Obligations.LegalityOfCommandWords : Prop :=
  (∀ w : CmdWord, (∃ i, decode w = .ok i) ↔
    (w.extractLsb 7 2 = 0 ∧ (w.extractLsb 1 0 = 0 ∨ w.extractLsb 31 8 = 0))) ∧
  (∀ (w : CmdWord) (i : Instr), decode w = .ok i →
    ∀ r ∈ opRows, r.covers w = true ↔ r.mnemonic = i.mnemonic) ∧
  (∀ w : CmdWord, (∀ i, decode w ≠ .ok i) → ∀ r ∈ opRows, r.covers w = false) ∧
  (∀ (p : Params) (b : Block p) (q : Port) (r : Request p),
    b.selected = some q → b.busy q = false → b.request q = some r → b.state ≠ .halted →
    (∀ i, decode r.cmd ≠ .ok i) →
    ∃ b', step { par := p, blk := b } = .next { par := p, blk := b' } ∧ b'.state = .halted ∧
      b'.faultCause = .illegalEncoding ∧ b'.faultPort = some q ∧ b'.faultCmd = r.cmd)

/-- The encoding vectors of 95_test_vectors.md section 4, word by word. -/
def Obligations.EncodingVectors : Prop :=
  decode 0x00000000 = .ok (.setup 0) ∧ decode 0x00000400 = .ok (.setup 4) ∧
  decode 0xFFFFFF00 = .ok (.setup 0xFFFFFF) ∧ decode 0x00000001 = .ok .push ∧
  decode 0x00000002 = .ok .pop ∧ decode 0x00000003 = .ok .isEmpty ∧
  decode 0x00000004 = .error .reservedBits ∧ decode 0x00000080 = .error .reservedBits ∧
  decode 0x00000101 = .error .reservedCapacity ∧ decode 0x80000002 = .error .reservedCapacity ∧
  decode 0x00000103 = .error .reservedCapacity ∧ decode 0x000004FC = .error .reservedBits

/-- Each line form of 30_encoding.md R78 presents a word that decodes to its command, with its operand on
OPND. -/
def Obligations.AssembledLines : Prop :=
  ∀ (p : Params) (l : Line), l.wf p = true →
    match l.form with
    | .setup cap base => decode (l.request p).cmd = .ok (.setup cap) ∧ (l.request p).opnd.toNat = base
    | .push value => decode (l.request p).cmd = .ok .push ∧ (l.request p).opnd.toNat = value
    | .pop => decode (l.request p).cmd = .ok .pop ∧ (l.request p).opnd = 0
    | .isEmpty => decode (l.request p).cmd = .ok .isEmpty ∧ (l.request p).opnd = 0
    | .word cmd opnd => (l.request p).cmd = cmd ∧ (l.request p).opnd.toNat = opnd

/-! ### The step -/

/-- When the port that takes the turn, by the schedule or by a free choice, is idle and the word presented on
it decodes to a command, the step is `exec` of that command at the state in which the request is taken: it is
no longer presented, the turn is the port's and its operand is on the operand bus (60_exceptions.md R142,
R151). -/
def Obligations.StepRunsDecodedCommand : Prop :=
  ∀ (p : Params) (b : Block p) (q : Port) (r : Request p) (i : Instr),
    b.selected = some q → b.busy q = false → b.request q = some r → decode r.cmd = .ok i →
    step { par := p, blk := b } =
      exec i { par := p, blk := { (b.turnGiven.setRequest q none) with turn := q, opnd := r.opnd } }

/-- When the port that takes the turn has a command in flight, the step is `exec` of that command: PUSH on
PROD, POP on CONS (10_state.md R32, 60_exceptions.md R151). -/
def Obligations.StepContinuesInFlight : Prop :=
  ∀ (p : Params) (b : Block p),
    (b.selected = some .prod → b.phaseProd ≠ .idle →
      step { par := p, blk := b } = exec .push { par := p, blk := { b.turnGiven with turn := .prod } }) ∧
    (b.selected = some .cons → b.phaseCons ≠ .idle →
      step { par := p, blk := b } = exec .pop { par := p, blk := { b.turnGiven with turn := .cons } })

/-- Where no turn is scheduled, a free choice gives the turn to a port that has an enabled micro-step, and
to one whenever there is one (60_exceptions.md R151). It holds for every value of the free choice. -/
def Obligations.FreeTurnIsEnabled : Prop :=
  ∀ (p : Params) (b : Block p),
    (∀ q, b.freePort = some q → b.enabled q = true) ∧
    (∀ q, b.enabled q = true → ∃ q', b.freePort = some q')

/-- No step and no command changes the parameters (00_scope.md R5: they are arguments of the model). -/
def Obligations.ParametersNeverChange : Prop :=
  (∀ s t : State, step s = .next t → t.par = s.par) ∧
  (∀ (i : Instr) (s t : State), exec i s = .next t → t.par = s.par)

/-- Interleaving I1 of 95_test_vectors.md section 2.6: a full buffer of capacity 2, a PUSH and a POP. The
schedule decides whether the PUSH fails or succeeds, and the model admits both end states. -/
def Obligations.BothSchedulesAdmitted : Prop :=
  ∀ b : Block Params.defaults,
    b.state = .ready → b.mask = 1 → b.base = 0 → b.wrIdx = 1 → b.rdIdx = 0 → b.storage = [(0, 0xA)] →
    b.phaseProd = .idle → b.phaseCons = .idle →
    b.reqProd = some { cmd := 0x00000001, opnd := 0xB } → b.reqCons = some { cmd := 0x00000002, opnd := 0 } →
    (∃ b', Host.Core.run Sys2Proof.core 4 ({ par := Params.defaults, blk :=
        { b with events := [.run .prod, .run .cons, .run .cons, .run .cons] } } : State)
        = .next ({ par := Params.defaults, blk := b' } : State) ∧ b'.wrIdx = 1 ∧ b'.rdIdx = 1 ∧
        b'.popData = 0xA ∧ b'.popWritten = true) ∧
    (∃ b', Host.Core.run Sys2Proof.core 6 ({ par := Params.defaults, blk :=
        { b with events := [.run .cons, .run .cons, .run .cons, .run .prod, .run .prod, .run .prod] } } : State)
        = .next ({ par := Params.defaults, blk := b' } : State) ∧ b'.wrIdx = 0 ∧ b'.rdIdx = 1 ∧ b'.queue = [some 0xB])

/-! ### Acceptance and faults -/

/-- 60_exceptions.md R142: the checks of acceptance in their order, each with what it answers, and the
command's first micro-step where none applies, all in one step. `a` is the block with the request taken. -/
def Obligations.AcceptanceChecksInOrder : Prop :=
  ∀ (p : Params) (b : Block p) (q : Port) (r : Request p),
    b.selected = some q → b.busy q = false → b.request q = some r →
    ∀ a : Block p, a = { (b.turnGiven.setRequest q none) with turn := q, opnd := r.opnd } →
    ∃ b', step { par := p, blk := b } = .next { par := p, blk := b' } ∧
      b' =
      if b.state = .halted then a.complete q .fault
      else match decode r.cmd with
        | .error _ => a.raise q .illegalEncoding r.cmd
        | .ok (.setup cap) =>
          if q ≠ .ctrl then a.raise q .wrongPort r.cmd
          else if b.phaseProd ≠ .idle ∨ b.phaseCons ≠ .idle then a.raise q .setupBusy r.cmd
          else if capLegal p cap = false then a.raise q .cfgCapacity r.cmd
          else a.setup cap
        | .ok .push =>
          if q ≠ .prod then a.raise q .wrongPort r.cmd
          else if b.state = .uncfg then a.raise q .notConfigured r.cmd
          else a.pushS
        | .ok .pop =>
          if q ≠ .cons then a.raise q .wrongPort r.cmd
          else if b.state = .uncfg then a.raise q .notConfigured r.cmd
          else a.popS
        | .ok .isEmpty =>
          if q = .ctrl then a.raise q .wrongPort r.cmd
          else a.reportEmpty

/-- 60_exceptions.md R143: a step that halts the block records the cause, the issuing port and the command
word, responds 10 on that port, whose request is taken and which was idle, and changes nothing else. (The
last four fields are the model's own: whose turn it is, the operand bus, the coming events and the counter
of free choices.) While the block is halted no step records another fault. -/
def Obligations.FaultEntryRecord : Prop :=
  (∀ (p : Params) (b b' : Block p),
    step { par := p, blk := b } = .next { par := p, blk := b' } → b.state ≠ .halted → b'.state = .halted →
    ∃ q r c, b.selected = some q ∧ b.busy q = false ∧ b.request q = some r ∧ c ≠ Cause.none ∧
      b' = { (b.setRequest q none) with
        state := .halted, faultCause := c, faultPort := some q, faultCmd := r.cmd,
        responses := b.responses ++ [{ port := q, rsp := .fault }],
        turn := q, opnd := r.opnd, events := b'.events, draws := b'.draws }) ∧
  (∀ (p : Params) (b b' : Block p),
    step { par := p, blk := b } = .next { par := p, blk := b' } → b.state = .halted → b.resetting = false →
    b'.faultCause = b.faultCause ∧ b'.faultPort = b.faultPort ∧ b'.faultCmd = b.faultCmd)

/-- 60_exceptions.md R144: in HALTED every request on every port, legal or not, is accepted and completes at
once with RSP = 10, and the block's state stays as it is. -/
def Obligations.HaltedRequestsRespondFault : Prop :=
  ∀ (p : Params) (b : Block p) (q : Port) (r : Request p),
    b.selected = some q → b.busy q = false → b.request q = some r → b.state = .halted →
    step { par := p, blk := b } = .next { par := p, blk :=
      { (b.turnGiven.setRequest q none) with
        responses := b.responses ++ [{ port := q, rsp := .fault }], turn := q, opnd := r.opnd } }

/-- 60_exceptions.md R145: a PUSH or POP in flight while the block is halted is abandoned at its next
micro-step: RSP = 10, PHASE <- IDLE, and no other effect. -/
def Obligations.InFlightAbandonedWhenHalted : Prop :=
  ∀ (p : Params) (b : Block p), b.state = .halted →
    (b.turn = .prod → b.phaseProd ≠ .idle → exec .push { par := p, blk := b } =
      .next { par := p, blk := { b with
        phaseProd := .idle, responses := b.responses ++ [{ port := .prod, rsp := .fault }] } }) ∧
    (b.turn = .cons → b.phaseCons ≠ .idle → exec .pop { par := p, blk := b } =
      .next { par := p, blk := { b with
        phaseCons := .idle, responses := b.responses ++ [{ port := .cons, rsp := .fault }] } })

/-- 60_exceptions.md R146: no step leaves HALTED or touches an index, MASK, BASE, a slot, POP_DATA or the
fault record, except reset, which clears STATE and the record. -/
def Obligations.OnlyResetLeavesHalted : Prop :=
  ∀ (p : Params) (b b' : Block p),
    step { par := p, blk := b } = .next { par := p, blk := b' } → b.state = .halted →
    if b.resetting = true then
      b'.state = .uncfg ∧ b'.faultCause = .none ∧ b'.faultPort = none ∧ b'.faultCmd = 0
    else
      b' = { b with
        phaseProd := b'.phaseProd, phaseCons := b'.phaseCons, responses := b'.responses,
        reqCtrl := b'.reqCtrl, reqProd := b'.reqProd, reqCons := b'.reqCons,
        turn := b'.turn, opnd := b'.opnd, events := b'.events, draws := b'.draws }

/-- 10_state.md R30: the only transitions of STATE: reset to UNCFG, a successful SETUP from UNCFG or READY
to READY, a fault from UNCFG or READY to HALTED; a step that is none of these keeps it. -/
def Obligations.StateTransitions : Prop :=
  ∀ (p : Params) (b b' : Block p),
    step { par := p, blk := b } = .next { par := p, blk := b' } →
    (b.resetting = true ∧ b'.state = .uncfg) ∨
    (b.resetting = false ∧ b.state ≠ .halted ∧ b'.state = .ready ∧ Rebinds b b') ∨
    (b.resetting = false ∧ b.state ≠ .halted ∧ b'.state = .halted ∧ b'.faultCause ≠ .none) ∨
    (b.resetting = false ∧ ¬ Rebinds b b' ∧ b'.faultCause = b.faultCause ∧ b'.state = b.state)

/-- 30_encoding.md R75: which command may be issued on which port. Accepted by a block that is not halted
on an idle port, a command records a WRONG_PORT fault exactly where the table does not permit it. -/
def Obligations.PortPermissions : Prop :=
  ∀ (p : Params) (b : Block p) (i : Instr), b.state ≠ .halted → b.busy b.turn = false →
    ∃ b', exec i { par := p, blk := b } = .next { par := p, blk := b' } ∧
      ((b'.state = .halted ∧ b'.faultCause = .wrongPort ∧ b'.faultPort = some b.turn ∧
          b'.faultCmd = encode i) ↔
        match i with
        | .setup _ => b.turn ≠ .ctrl
        | .push => b.turn ≠ .prod
        | .pop => b.turn ≠ .cons
        | .isEmpty => b.turn = .ctrl)

/-- NOT_CONFIGURED (60_exceptions.md R141): PUSH on PROD or POP on CONS while STATE = UNCFG takes the fault
entry, with the whole record, and has no other effect. -/
def Obligations.PushAndPopNeedSetup : Prop :=
  ∀ (p : Params) (b : Block p), b.state = .uncfg →
    (b.turn = .prod → b.phaseProd = .idle → exec .push { par := p, blk := b } =
      .next { par := p, blk := { b with
        state := .halted, faultCause := .notConfigured, faultPort := some .prod, faultCmd := 0x00000001,
        responses := b.responses ++ [{ port := .prod, rsp := .fault }] } }) ∧
    (b.turn = .cons → b.phaseCons = .idle → exec .pop { par := p, blk := b } =
      .next { par := p, blk := { b with
        state := .halted, faultCause := .notConfigured, faultPort := some .cons, faultCmd := 0x00000002,
        responses := b.responses ++ [{ port := .cons, rsp := .fault }] } })

/-! ### SETUP -/

/-- 40_setup.md R100 and R101: SETUP on CTRL of a block that is not halted, with no PUSH or POP in flight,
binds BASE and MASK, zeroes both indices and moves STATE to READY where the capacity is non-zero, a power
of two and at most 2^CAP_MAX_LOG2, and takes the CFG_CAPACITY fault otherwise. Nothing else is written.
After a success EMPTY is 1, and FULL is 1 exactly for capacity 1. -/
def Obligations.SetupBindsOrFaults : Prop :=
  ∀ (p : Params) (b : Block p) (cap : Nat),
    b.state ≠ .halted → b.turn = .ctrl → b.phaseProd = .idle → b.phaseCons = .idle →
    if cap ≠ 0 ∧ cap &&& (cap - 1) = 0 ∧ cap ≤ 2 ^ p.capMaxLog2 then
      ∃ b', exec (.setup cap) { par := p, blk := b } = .next { par := p, blk := b' } ∧
        b' = { b with
          base := b.opnd.setWidth p.aw, mask := BitVec.ofNat p.idxW (cap - 1), wrIdx := 0, rdIdx := 0,
          state := .ready, responses := b.responses ++ [{ port := .ctrl, rsp := .doneTrue }] } ∧
        b'.empty = true ∧ (p.Legal → (b'.full = true ↔ cap = 1))
    else
      exec (.setup cap) { par := p, blk := b } = .next { par := p, blk := { b with
        state := .halted, faultCause := .cfgCapacity, faultPort := some .ctrl, faultCmd := encode (.setup cap),
        responses := b.responses ++ [{ port := .ctrl, rsp := .fault }] } }

/-- SETUP_BUSY (60_exceptions.md R141): SETUP while a PUSH or a POP is in flight takes the fault entry,
whatever its capacity, and leaves the command in flight where it is. -/
def Obligations.SetupBusyFaults : Prop :=
  ∀ (p : Params) (b : Block p) (cap : Nat),
    b.state ≠ .halted → b.turn = .ctrl → (b.phaseProd ≠ .idle ∨ b.phaseCons ≠ .idle) →
    exec (.setup cap) { par := p, blk := b } = .next { par := p, blk := { b with
      state := .halted, faultCause := .setupBusy, faultPort := some .ctrl, faultCmd := encode (.setup cap),
      responses := b.responses ++ [{ port := .ctrl, rsp := .fault }] } }

/-- 40_setup.md R102: after a successful SETUP the occupancy is 0 and the queue is empty; every slot still
holds its value, POP_DATA keeps its value (and stays unspecified if it was), and no command was in flight. -/
def Obligations.SetupDiscardsElements : Prop :=
  ∀ (p : Params) (b b' : Block p),
    step { par := p, blk := b } = .next { par := p, blk := b' } → Rebinds b b' →
    b'.occupancy = 0 ∧ b'.queue = [] ∧ b'.popData = b.popData ∧ b'.popWritten = b.popWritten ∧
      (∀ a, b'.storage.read a = b.storage.read a) ∧ b.phaseProd = .idle ∧ b.phaseCons = .idle

/-! ### PUSH -/

/-- 41_push.md R110: PUSH.S. On a full buffer the PUSH responds 00 and nothing is written; otherwise the
latches take WR_IDX, its masked successor and the element, and PUSH.W is next. -/
def Obligations.PushSamples : Prop :=
  ∀ (p : Params) (b : Block p), b.turn = .prod → b.phaseProd = .idle → b.state = .ready →
    exec .push { par := p, blk := b } = .next { par := p, blk :=
      if (b.wrIdx + 1) &&& b.mask = b.rdIdx then
        { b with responses := b.responses ++ [{ port := .prod, rsp := .doneFalse }] }
      else
        { b with
          plW := b.wrIdx, plNW := (b.wrIdx + 1) &&& b.mask, plD := b.opnd.setWidth p.dataW, phaseProd := .puW } }

/-- 41_push.md R111: PUSH.W writes PL_D into the slot at BASE + (PL_W AND MASK), and PUSH.P is next; every
other slot and register stays as it is. -/
def Obligations.PushWritesSlot : Prop :=
  ∀ (p : Params) (b : Block p), b.turn = .prod → b.phaseProd = .puW → b.state ≠ .halted →
    ∃ b', exec .push { par := p, blk := b } = .next { par := p, blk := b' } ∧
      b' = { b with storage := b'.storage, phaseProd := .puP } ∧
      b'.storage.read (b.base + (b.plW &&& b.mask).setWidth p.aw) = some b.plD ∧
      ∀ a, a ≠ b.base + (b.plW &&& b.mask).setWidth p.aw → b'.storage.read a = b.storage.read a

/-- 41_push.md R112: PUSH.P publishes PL_NW in WR_IDX and responds 01; nothing else is written. In a
reachable state EMPTY becomes 0, and FULL becomes 1 exactly where the buffer now holds C - 1 elements. -/
def Obligations.PushPublishes : Prop :=
  ∀ (p : Params) (b : Block p), b.turn = .prod → b.phaseProd = .puP → b.state ≠ .halted →
    ∃ b', exec .push { par := p, blk := b } = .next { par := p, blk := b' } ∧
      b' = { b with
        wrIdx := b.plNW, phaseProd := .idle, responses := b.responses ++ [{ port := .prod, rsp := .doneTrue }] } ∧
      (b.Inv → b'.empty = false ∧ (b'.full = true ↔ b'.occupancy = b'.capacity - 1))

/-- The frame of PUSH, over all of its micro-steps: it writes no register but its latches, WR_IDX,
PHASE[PROD] and its response, unless it takes a fault entry, and no slot but the one PUSH.W writes. -/
def Obligations.PushFrame : Prop :=
  ∀ (p : Params) (b b' : Block p), exec .push { par := p, blk := b } = .next { par := p, blk := b' } →
    (b.turn = .prod ∨ b.busy b.turn = false) →
    b' = { b with
      wrIdx := b'.wrIdx, phaseProd := b'.phaseProd, plW := b'.plW, plNW := b'.plNW, plD := b'.plD,
      storage := b'.storage, responses := b'.responses,
      state := b'.state, faultCause := b'.faultCause, faultPort := b'.faultPort, faultCmd := b'.faultCmd } ∧
    (b'.state ≠ .halted ∨ b.state = .halted →
      b'.state = b.state ∧ b'.faultCause = b.faultCause ∧ b'.faultPort = b.faultPort ∧ b'.faultCmd = b.faultCmd) ∧
    (b.phaseProd ≠ .puP → b'.wrIdx = b.wrIdx) ∧
    ∀ a, ¬ (b.turn = .prod ∧ b.phaseProd = .puW ∧ b.state ≠ .halted ∧ a = b.slotAddr b.plW) →
      b'.storage.read a = b.storage.read a

/-- 41_push.md R114: from an empty buffer of capacity C with no POP issued, C - 1 consecutive PUSHes respond
01 and hold their elements in order, and the C-th responds 00 with indices and storage unchanged. Each PUSH is
given three turns; the C-th needs one, and its other two are void turns (log 4). -/
def Obligations.CapacityBoundary : Prop :=
  ∀ (p : Params) (b : Block p) (ds : List (Opnd p)) (d : Opnd p) (rest : List (Event p)),
    b.Inv → b.state = .ready → b.phaseProd = .idle → b.reqProd = none → b.occupancy = 0 →
    ds.length + 1 = b.capacity → b.events = (ds ++ [d]).flatMap pushScript ++ rest →
    ∃ b' b'' : Block p,
      Host.Core.run Sys2Proof.core (4 * ds.length) ({ par := p, blk := b } : State)
        = .next ({ par := p, blk := b' } : State) ∧
      b'.responses = b.responses ++ List.replicate ds.length { port := .prod, rsp := .doneTrue } ∧
      b'.queue = ds.map (fun o => some (o.setWidth p.dataW)) ∧
      Host.Core.run Sys2Proof.core 4 ({ par := p, blk := b' } : State)
        = .next ({ par := p, blk := b'' } : State) ∧
      b'' = { b' with
        responses := b'.responses ++ [{ port := .prod, rsp := .doneFalse }],
        turn := .prod, opnd := d, events := rest }

/-! ### POP -/

/-- 42_pop.md R120: POP.S. On an empty buffer the POP responds 00 and nothing is written; otherwise the
latches take RD_IDX and its masked successor, and POP.R is next. -/
def Obligations.PopSamples : Prop :=
  ∀ (p : Params) (b : Block p), b.turn = .cons → b.phaseCons = .idle → b.state = .ready →
    exec .pop { par := p, blk := b } = .next { par := p, blk :=
      if b.rdIdx = b.wrIdx then
        { b with responses := b.responses ++ [{ port := .cons, rsp := .doneFalse }] }
      else
        { b with clR := b.rdIdx, clNR := (b.rdIdx + 1) &&& b.mask, phaseCons := .poR } }

/-- 42_pop.md R121: POP.R reads the slot at BASE + (CL_R AND MASK) into CL_D, and POP.P is next; nothing else
is written. -/
def Obligations.PopReadsSlot : Prop :=
  ∀ (p : Params) (b : Block p) (d : Elem p), b.turn = .cons → b.phaseCons = .poR → b.state ≠ .halted →
    b.storage.read (b.base + (b.clR &&& b.mask).setWidth p.aw) = some d →
    exec .pop { par := p, blk := b } = .next { par := p, blk := { b with clD := d, phaseCons := .poP } }

/-- The model's own choice (log 10, allowed by 20_memory.md R57): a POP.R of a slot that no PUSH.W has
written is a model fault, and a command never ends in a fault otherwise. -/
def Obligations.FaultOnlyOnUnwrittenSlot : Prop :=
  ∀ (p : Params) (b : Block p) (i : Instr) (f : Fault),
    exec i { par := p, blk := b } = .fault f ↔
      (i = .pop ∧ b.turn = .cons ∧ b.phaseCons = .poR ∧ b.state ≠ .halted ∧
        b.storage.read (b.slotAddr b.clR) = none ∧ f = .unwrittenSlot)

/-- 42_pop.md R122: POP.P delivers CL_D in POP_DATA, publishes CL_NR in RD_IDX and responds 01; nothing else
is written. In a reachable state FULL becomes 0 if C >= 2, and EMPTY becomes 1 exactly where the buffer is
now empty. -/
def Obligations.PopPublishes : Prop :=
  ∀ (p : Params) (b : Block p), b.turn = .cons → b.phaseCons = .poP → b.state ≠ .halted →
    ∃ b', exec .pop { par := p, blk := b } = .next { par := p, blk := b' } ∧
      b' = { b with
        popData := b.clD, popWritten := true, rdIdx := b.clNR, phaseCons := .idle,
        responses := b.responses ++ [{ port := .cons, rsp := .doneTrue }] } ∧
      (b.Inv → (2 ≤ b.capacity → b'.full = false) ∧ (b'.empty = true ↔ b'.occupancy = 0))

/-- The frame of SETUP, POP and IS_EMPTY: none of them stores to any slot or moves the producer's latches;
POP writes no register but its latches, RD_IDX, POP_DATA, PHASE[CONS] and its response, SETUP none but BASE,
MASK, the indices, STATE and its response, IS_EMPTY none but its response, unless a fault entry is taken.
STATE moves by a fault entry, by a SETUP to READY, and not otherwise; a fault entry of SETUP writes none of
BASE, MASK and the indices. -/
def Obligations.NonStoringFrame : Prop :=
  ∀ (p : Params) (b b' : Block p) (i : Instr), i ≠ .push →
    exec i { par := p, blk := b } = .next { par := p, blk := b' } →
    ((i = .pop ∧ b.turn = .cons) ∨ b.busy b.turn = false) →
    (∀ a, b'.storage.read a = b.storage.read a) ∧
    (b.state = .halted → b'.state = .halted) ∧
    (b'.state = .halted → b.state = .halted ∨ b'.faultCause ≠ .none) ∧
    (b'.state ≠ .halted ∨ b.state = .halted →
      b'.faultCause = b.faultCause ∧ b'.faultPort = b.faultPort ∧ b'.faultCmd = b.faultCmd) ∧
    match i with
    | .setup _ => b' = { b with
        base := b'.base, mask := b'.mask, wrIdx := b'.wrIdx, rdIdx := b'.rdIdx, state := b'.state,
        faultCause := b'.faultCause, faultPort := b'.faultPort, faultCmd := b'.faultCmd,
        responses := b'.responses } ∧
        (b'.state ≠ .halted → b'.state = .ready) ∧
        (b'.state = .halted →
          b'.base = b.base ∧ b'.mask = b.mask ∧ b'.wrIdx = b.wrIdx ∧ b'.rdIdx = b.rdIdx)
    | .pop => b' = { b with
        clR := b'.clR, clNR := b'.clNR, clD := b'.clD, rdIdx := b'.rdIdx, popData := b'.popData,
        popWritten := b'.popWritten, phaseCons := b'.phaseCons, state := b'.state,
        faultCause := b'.faultCause, faultPort := b'.faultPort, faultCmd := b'.faultCmd,
        responses := b'.responses } ∧
        (b'.state ≠ .halted ∨ b.state = .halted → b'.state = b.state) ∧
        (b.phaseCons ≠ .poP →
          b'.rdIdx = b.rdIdx ∧ b'.popData = b.popData ∧ b'.popWritten = b.popWritten)
    | .push => True
    | .isEmpty => b' = { b with
        state := b'.state, faultCause := b'.faultCause, faultPort := b'.faultPort, faultCmd := b'.faultCmd,
        responses := b'.responses } ∧
        (b'.state ≠ .halted ∨ b.state = .halted → b'.state = b.state)

/-! ### IS_EMPTY -/

/-- 43_is_empty.md R130: IS_EMPTY on PROD or CONS of a block that is not halted responds 01 where
RD_IDX = WR_IDX and 00 where not, UNCFG included; no register or slot changes. -/
def Obligations.IsEmptyResponds : Prop :=
  ∀ (p : Params) (b : Block p), b.state ≠ .halted → b.busy b.turn = false →
    (b.turn = .prod ∨ b.turn = .cons) →
    exec .isEmpty { par := p, blk := b } = .next { par := p, blk := { b with
      responses := b.responses ++
        [{ port := b.turn, rsp := if b.rdIdx = b.wrIdx then .doneTrue else .doneFalse }] } }

/-- 43_is_empty.md R131: a buffer that is not empty stays so until CONS publishes a POP, and an empty one
until PROD publishes a PUSH, a reset or a successful SETUP apart. -/
def Obligations.EmptinessIsOwned : Prop :=
  ∀ (p : Params) (b b' : Block p),
    step { par := p, blk := b } = .next { par := p, blk := b' } → b.resetting = false → ¬ Rebinds b b' →
    (b.empty = false → b.delivered = [] → b.Inv → b'.empty = false) ∧
    (b.empty = true → b.published = [] → b.Inv → b'.empty = true)

/-! ### Index logic and storage -/

/-- 10_state.md R25: Next(i) = ((i + 1) mod 2^IDX_W) AND MASK, which is (i + 1) mod C for every i in
0..MASK where C is a power of two no larger than 2^IDX_W. -/
def Obligations.SuccessorModCapacity : Prop :=
  ∀ (p : Params) (b : Block p) (i : Idx p),
    (b.next i).toNat = ((i.toNat + 1) % 2 ^ p.idxW) &&& b.mask.toNat ∧
    ∀ k, k ≤ p.idxW → b.capacity = 2 ^ k → i.toNat ≤ b.mask.toNat →
      (b.next i).toNat = (i.toNat + 1) % b.capacity

/-- 20_memory.md R51 and R54: the slot of index i is at (BASE + (i AND MASK)) mod 2^AW, and in a reachable
state the C slots of the storage region, at (BASE + j) mod 2^AW, are distinct. -/
def Obligations.SlotAddressesDistinct : Prop :=
  ∀ (p : Params) (b : Block p) (i j : Idx p),
    (b.slotAddr i).toNat = (b.base.toNat + (i.toNat &&& b.mask.toNat)) % 2 ^ p.aw ∧
    (b.Inv → i.toNat ≤ b.mask.toNat → j.toNat ≤ b.mask.toNat →
      (b.slotAddr i).toNat = (b.base.toNat + i.toNat) % 2 ^ p.aw ∧
      (b.slotAddr i = b.slotAddr j → i = j))

/-- 10_state.md R28: in a reachable state EMPTY = 1 exactly when n = 0 and FULL = 1 exactly when n = C - 1;
both for C = 1, never both for C >= 2. -/
def Obligations.ComparatorsMeasureOccupancy : Prop :=
  ∀ (p : Params) (b : Block p), b.Inv →
    b.occupancy ≤ b.capacity - 1 ∧
    (b.empty = true ↔ b.occupancy = 0) ∧ (b.full = true ↔ b.occupancy = b.capacity - 1) ∧
    (b.capacity = 1 → b.empty = true ∧ b.full = true) ∧
    (2 ≤ b.capacity → ¬ (b.empty = true ∧ b.full = true))

/-- 20_memory.md R52: MemWrite(a, 1, v) sets slot a to v and changes no other slot. -/
def Obligations.ReadAfterWrite : Prop :=
  ∀ (p : Params) (m : Memory p) (a : Addr p) (v : Elem p),
    (m.write a v).read a = some v ∧ ∀ a', a' ≠ a → (m.write a v).read a' = m.read a'

/-- 20_memory.md R53: a step changes a slot only as a PUSH.W that is not abandoned, and then the slot at
PL_W and no other. -/
def Obligations.OnlyPushWritesStorage : Prop :=
  ∀ (p : Params) (b b' : Block p) (a : Addr p),
    step { par := p, blk := b } = .next { par := p, blk := b' } → b'.storage.read a ≠ b.storage.read a →
    b.selected = some .prod ∧ b.phaseProd = .puW ∧ b.state ≠ .halted ∧ a = b.slotAddr b.plW ∧
      b'.storage.read a = some b.plD

/-- 10_state.md R22: a reset and a successful SETUP apart, only PUSH.P on PROD changes WR_IDX and only POP.P
on CONS changes RD_IDX; SETUP writes them only while no PUSH or POP is in flight. -/
def Obligations.SingleWriterPerIndex : Prop :=
  ∀ (p : Params) (b b' : Block p),
    step { par := p, blk := b } = .next { par := p, blk := b' } → b.resetting = false →
    (b'.wrIdx ≠ b.wrIdx → (b.selected = some .prod ∧ b.phaseProd = .puP ∧ b.state ≠ .halted ∧ b'.wrIdx = b.plNW) ∨
      (Rebinds b b' ∧ b.phaseProd = .idle ∧ b.phaseCons = .idle)) ∧
    (b'.rdIdx ≠ b.rdIdx → (b.selected = some .cons ∧ b.phaseCons = .poP ∧ b.state ≠ .halted ∧ b'.rdIdx = b.clNR) ∨
      (Rebinds b b' ∧ b.phaseProd = .idle ∧ b.phaseCons = .idle))

/-! ### Observation and reset -/

/-- 10_state.md R31: the STATUS word field by field, and what the observation interface reads, POP_DATA
being a fault until a successful POP since reset has written it. -/
def Obligations.ObservationInterface : Prop :=
  ∀ (p : Params) (b : Block p),
    b.status.extractLsb 1 0 = b.state.code ∧ b.status.extractLsb 4 2 = b.faultCause.code ∧
    b.status.extractLsb 5 5 = BitVec.ofBool (decide (b.rdIdx = b.wrIdx)) ∧
    b.status.extractLsb 6 6 = BitVec.ofBool (decide ((b.wrIdx + 1) &&& b.mask = b.rdIdx)) ∧
    b.status.extractLsb 8 7 = Port.code b.faultPort ∧ b.status.extractLsb 31 9 = 0 ∧
    b.observe .wrIdx = .ok b.wrIdx ∧ b.observe .rdIdx = .ok b.rdIdx ∧ b.observe .mask = .ok b.mask ∧
    b.observe .base = .ok b.base ∧ b.observe .state = .ok b.state.code ∧
    b.observe .faultCause = .ok b.faultCause.code ∧ b.observe .faultPort = .ok (Port.code b.faultPort) ∧
    b.observe .faultCmd = .ok b.faultCmd ∧ b.observe .status = .ok b.status ∧
    (b.popWritten = true → b.observe .popData = .ok b.popData) ∧
    (b.popWritten = false → b.observe .popData = .error .popDataUnspecified)

/-- 70_reset_and_hazards.md R171: STATUS right after reset is 0x60, for every value of the parameters. -/
def Obligations.StatusAfterReset : Prop :=
  ∀ p : Params, (State.resetWith p).blk.status = 0x00000060

/-- 70_reset_and_hazards.md R170: the reset input sets every register to its reset value, makes POP_DATA
unspecified, abandons commands in flight without a response, discards presented requests and leaves the
storage alone. What it leaves in the six latches and in POP_DATA is not said here (they become unspecified). -/
def Obligations.ResetInput : Prop :=
  ∀ (p : Params) (b : Block p) (rest : List (Event p)), b.events = .reset :: rest →
    ∃ b', step { par := p, blk := b } = .next { par := p, blk := b' } ∧
      b' = { b with
        wrIdx := 0, rdIdx := 0, mask := 0, base := 0, state := .uncfg, faultCause := .none,
        faultPort := none, faultCmd := 0, phaseCtrl := .idle, phaseProd := .idle, phaseCons := .idle,
        popWritten := false, reqCtrl := none, reqProd := none, reqCons := none, events := rest,
        popData := b'.popData,
        plW := b'.plW, plNW := b'.plNW, plD := b'.plD, clR := b'.clR, clNR := b'.clNR, clD := b'.clD }

/-! ### The whole machine -/

/-- The invariant holds right after reset, for every legal value of the parameters (10_state.md R26). -/
def Obligations.InvariantAtReset : Prop :=
  ∀ p : Params, p.Legal → (State.resetWith p).blk.Inv

/-- Every step keeps the invariant, whatever the agents, the scheduler and the reset input do (10_state.md
R26, R27; 20_memory.md R57, R68). -/
def Obligations.StepKeepsInvariant : Prop :=
  ∀ (p : Params) (b b' : Block p), b.Inv →
    step { par := p, blk := b } = .next { par := p, blk := b' } → b'.Inv

/-- 20_memory.md R57: in every state with the invariant a step answers a next state, so the model's fault on
a read of an unwritten slot is never reached and no command is refused. -/
def Obligations.StepAlwaysAnswers : Prop :=
  ∀ (p : Params) (b : Block p), b.Inv →
    ∃ b', step { par := p, blk := b } = .next { par := p, blk := b' }

/-- 20_memory.md R68: in every state with the invariant, (1) the slot of a PUSH in flight is not live, (2) a
POP in flight addresses a live slot, so not one that a PUSH has written and not yet published, and (3) the
slots of a PUSH and a POP in flight differ. -/
def Obligations.NoConflictingSlotAccesses : Prop :=
  ∀ (p : Params) (b : Block p), b.Inv →
    (b.phaseProd ≠ .idle → ∀ i, b.Live i → b.slotAddr b.plW ≠ b.slotAddr i) ∧
    (b.phaseCons ≠ .idle → b.Live b.clR) ∧
    (b.phaseProd ≠ .idle → b.phaseCons ≠ .idle → b.slotAddr b.plW ≠ b.slotAddr b.clR)

/-- 10_state.md R29: PUSH.P appends PL_D to the queue, POP.P removes its first element and copies it to
POP_DATA, a successful SETUP empties it, and no other step but reset changes it or POP_DATA. -/
def Obligations.QueueRefinement : Prop :=
  ∀ (p : Params) (b b' : Block p), b.Inv →
    step { par := p, blk := b } = .next { par := p, blk := b' } → b.resetting = false →
    (Rebinds b b' → b'.queue = []) ∧
    (¬ Rebinds b b' → b.queue ++ b.published.map some = b.delivered.map some ++ b'.queue) ∧
    (∀ d, b.delivered = [d] → b'.popData = d ∧ b'.popWritten = true) ∧
    (b.delivered = [] → b'.popData = b.popData ∧ b'.popWritten = b.popWritten)

/-- 42_pop.md R124: over any run without reset or SETUP from a state whose queue is empty (which a SETUP
leaves), whatever the interleaving, the elements delivered are a prefix of the elements published, in
order, with no duplicate and no loss: what is published and not delivered is what the queue holds. -/
def Obligations.FifoOrder : Prop :=
  ∀ (p : Params) (b b' : Block p) (us vs : List (Elem p)), b.Inv → b.queue = [] → History b us vs b' →
    us.map some = vs.map some ++ b'.queue ∧ vs <+: us

/-- 30_encoding.md R76: every accepted request gets exactly one response. For each port, the number of its
requests presented, in flight or answered goes up by one where its agent presents one and stays as it is at
every other step but a reset; and a step emits at most one response. -/
def Obligations.OneResponsePerRequest : Prop :=
  ∀ (p : Params) (b b' : Block p),
    step { par := p, blk := b } = .next { par := p, blk := b' } → b.resetting = false →
    (∀ q, b'.accounted q = b.accounted q ∨
      (b'.accounted q = b.accounted q + 1 ∧ b.request q = none ∧ b'.request q ≠ none ∧
        b'.responses = b.responses)) ∧
    (b'.responses = b.responses ∨
      ∃ q rsp, b.selected = some q ∧ b'.responses = b.responses ++ [{ port := q, rsp := rsp }])

/-- 41_push.md R113 and 42_pop.md R123, item 4: a command takes at most three micro-steps of its own port.
Acceptance leaves at most two, each further turn of the port takes one off, and no other step but reset
moves it. -/
def Obligations.CommandsTakeThreeSteps : Prop :=
  ∀ (p : Params) (b b' : Block p) (q : Port),
    step { par := p, blk := b } = .next { par := p, blk := b' } → b.resetting = false →
    b.stepsLeft q ≤ 2 ∧ (b.busy q = true ↔ 0 < b.stepsLeft q) ∧
    (b.busy q = true → b.selected = some q → b'.stepsLeft q < b.stepsLeft q) ∧
    (b.selected ≠ some q → b'.stepsLeft q = b.stepsLeft q)

/-- 70_reset_and_hazards.md R181: under weak fairness every command in flight completes: in an infinite run
of steps without reset, a port with a command in flight is idle again later, after a response on it. Fairness
is a premise, which the step does not enforce (log 15). The list of coming events of a state is finite, so such
a run presents finitely many requests. -/
def Obligations.FairRunsCompleteCommands : Prop :=
  ∀ (p : Params) (run : Nat → Block p),
    (∀ n, step { par := p, blk := run n } = .next { par := p, blk := run (n + 1) }) →
    (∀ n, (run n).resetting = false) → WeaklyFair run →
    ∀ (q : Port) (n : Nat), (run n).busy q = true →
      ∃ m rsp, n < m ∧ (run m).busy q = false ∧
        (run m).responses.getLast? = some { port := q, rsp := rsp }

/-- 10_state.md R33: no rule reads a latch before writing it. Two states that differ only in latches no
command in flight will still read, and in POP_DATA before a POP has written it, answer alike at every step:
both a next state, differing again only so, or both the same stop; and the observation interface reads alike on
both. So what the latches and POP_DATA hold after reset (logs 8 and 9) is never observed. -/
def Obligations.LatchesUnobservable : Prop :=
  ∀ (p : Params) (b c : Block p), SameButUnspecified b c →
    (∀ b', step { par := p, blk := b } = .next { par := p, blk := b' } →
      ∃ c', step { par := p, blk := c } = .next { par := p, blk := c' } ∧ SameButUnspecified b' c') ∧
    (∀ f, step { par := p, blk := b } = .fault f ↔ step { par := p, blk := c } = .fault f) ∧
    (∀ o, b.observe o = c.observe o)

/-- What a step does where no port takes a turn, and where the port that takes it has nothing to do. A request
that an agent presents on a port with none presented is stored, and nothing else moves (10_state.md R20); with
no event and no enabled port nothing moves; a turn of an idle port with no request moves nothing but the
schedule. The last two are the model's own stutters (log 4); that the event of a request on a port with one
presented waits, so that another port may be selected, is log 5. -/
def Obligations.StepsWithoutCommand : Prop :=
  ∀ (p : Params) (b : Block p),
    (∀ (q : Port) (r : Request p) (rest : List (Event p)),
      b.events = .present q r :: rest → b.request q = none →
      step { par := p, blk := b } =
        .next { par := p, blk := { (b.setRequest q (some r)) with events := rest } }) ∧
    (b.events = [] → (∀ q, b.enabled q = false) →
      step { par := p, blk := b } = .next { par := p, blk := b }) ∧
    (∀ q : Port, b.selected = some q → b.busy q = false → b.request q = none →
      step { par := p, blk := b } = .next { par := p, blk := b.turnGiven })
end

