-- ==== Sys2Proof/Laws/State.lean ====
section
/-! SUPPORT. One lemma per field and per named update of the state, so that no later proof unfolds a record
update. -/

namespace Sys2Proof.Machine

variable {p : Params}

/-- The block once the model's own list of events and counter of free choices have moved on. -/
def Block.moved (b : Block p) (rest : List (Event p)) (n : Nat) : Block p :=
  { b with events := rest, draws := n }

/-- The block with the turn given to port `q`. -/
def Block.atTurn (b : Block p) (q : Port) : Block p := { b with turn := q }

/-! ### setIdle -/

@[simp] theorem Block.setIdle_wrIdx (b : Block p) (q : Port) : (b.setIdle q).wrIdx = b.wrIdx := by cases q <;> rfl
@[simp] theorem Block.setIdle_rdIdx (b : Block p) (q : Port) : (b.setIdle q).rdIdx = b.rdIdx := by cases q <;> rfl
@[simp] theorem Block.setIdle_mask (b : Block p) (q : Port) : (b.setIdle q).mask = b.mask := by cases q <;> rfl
@[simp] theorem Block.setIdle_base (b : Block p) (q : Port) : (b.setIdle q).base = b.base := by cases q <;> rfl
@[simp] theorem Block.setIdle_state (b : Block p) (q : Port) : (b.setIdle q).state = b.state := by cases q <;> rfl
@[simp] theorem Block.setIdle_faultCause (b : Block p) (q : Port) : (b.setIdle q).faultCause = b.faultCause := by cases q <;> rfl
@[simp] theorem Block.setIdle_faultPort (b : Block p) (q : Port) : (b.setIdle q).faultPort = b.faultPort := by cases q <;> rfl
@[simp] theorem Block.setIdle_faultCmd (b : Block p) (q : Port) : (b.setIdle q).faultCmd = b.faultCmd := by cases q <;> rfl
@[simp] theorem Block.setIdle_phaseCtrl (b : Block p) (q : Port) : (b.setIdle q).phaseCtrl = CtrlPhase.idle := by cases q <;> rfl
@[simp] theorem Block.setIdle_phaseProd (b : Block p) (q : Port) : (b.setIdle q).phaseProd = if q = .prod then .idle else b.phaseProd := by cases q <;> rfl
@[simp] theorem Block.setIdle_phaseCons (b : Block p) (q : Port) : (b.setIdle q).phaseCons = if q = .cons then .idle else b.phaseCons := by cases q <;> rfl
@[simp] theorem Block.setIdle_plW (b : Block p) (q : Port) : (b.setIdle q).plW = b.plW := by cases q <;> rfl
@[simp] theorem Block.setIdle_plNW (b : Block p) (q : Port) : (b.setIdle q).plNW = b.plNW := by cases q <;> rfl
@[simp] theorem Block.setIdle_plD (b : Block p) (q : Port) : (b.setIdle q).plD = b.plD := by cases q <;> rfl
@[simp] theorem Block.setIdle_clR (b : Block p) (q : Port) : (b.setIdle q).clR = b.clR := by cases q <;> rfl
@[simp] theorem Block.setIdle_clNR (b : Block p) (q : Port) : (b.setIdle q).clNR = b.clNR := by cases q <;> rfl
@[simp] theorem Block.setIdle_clD (b : Block p) (q : Port) : (b.setIdle q).clD = b.clD := by cases q <;> rfl
@[simp] theorem Block.setIdle_popData (b : Block p) (q : Port) : (b.setIdle q).popData = b.popData := by cases q <;> rfl
@[simp] theorem Block.setIdle_popWritten (b : Block p) (q : Port) : (b.setIdle q).popWritten = b.popWritten := by cases q <;> rfl
@[simp] theorem Block.setIdle_storage (b : Block p) (q : Port) : (b.setIdle q).storage = b.storage := by cases q <;> rfl
@[simp] theorem Block.setIdle_reqCtrl (b : Block p) (q : Port) : (b.setIdle q).reqCtrl = b.reqCtrl := by cases q <;> rfl
@[simp] theorem Block.setIdle_reqProd (b : Block p) (q : Port) : (b.setIdle q).reqProd = b.reqProd := by cases q <;> rfl
@[simp] theorem Block.setIdle_reqCons (b : Block p) (q : Port) : (b.setIdle q).reqCons = b.reqCons := by cases q <;> rfl
@[simp] theorem Block.setIdle_turn (b : Block p) (q : Port) : (b.setIdle q).turn = b.turn := by cases q <;> rfl
@[simp] theorem Block.setIdle_opnd (b : Block p) (q : Port) : (b.setIdle q).opnd = b.opnd := by cases q <;> rfl
@[simp] theorem Block.setIdle_responses (b : Block p) (q : Port) : (b.setIdle q).responses = b.responses := by cases q <;> rfl
@[simp] theorem Block.setIdle_events (b : Block p) (q : Port) : (b.setIdle q).events = b.events := by cases q <;> rfl
@[simp] theorem Block.setIdle_draws (b : Block p) (q : Port) : (b.setIdle q).draws = b.draws := by cases q <;> rfl

/-! ### setRequest -/

@[simp] theorem Block.setRequest_wrIdx (b : Block p) (q : Port) (r : Option (Request p)) : (b.setRequest q r).wrIdx = b.wrIdx := by cases q <;> rfl
@[simp] theorem Block.setRequest_rdIdx (b : Block p) (q : Port) (r : Option (Request p)) : (b.setRequest q r).rdIdx = b.rdIdx := by cases q <;> rfl
@[simp] theorem Block.setRequest_mask (b : Block p) (q : Port) (r : Option (Request p)) : (b.setRequest q r).mask = b.mask := by cases q <;> rfl
@[simp] theorem Block.setRequest_base (b : Block p) (q : Port) (r : Option (Request p)) : (b.setRequest q r).base = b.base := by cases q <;> rfl
@[simp] theorem Block.setRequest_state (b : Block p) (q : Port) (r : Option (Request p)) : (b.setRequest q r).state = b.state := by cases q <;> rfl
@[simp] theorem Block.setRequest_faultCause (b : Block p) (q : Port) (r : Option (Request p)) : (b.setRequest q r).faultCause = b.faultCause := by cases q <;> rfl
@[simp] theorem Block.setRequest_faultPort (b : Block p) (q : Port) (r : Option (Request p)) : (b.setRequest q r).faultPort = b.faultPort := by cases q <;> rfl
@[simp] theorem Block.setRequest_faultCmd (b : Block p) (q : Port) (r : Option (Request p)) : (b.setRequest q r).faultCmd = b.faultCmd := by cases q <;> rfl
@[simp] theorem Block.setRequest_phaseCtrl (b : Block p) (q : Port) (r : Option (Request p)) : (b.setRequest q r).phaseCtrl = b.phaseCtrl := by cases q <;> rfl
@[simp] theorem Block.setRequest_phaseProd (b : Block p) (q : Port) (r : Option (Request p)) : (b.setRequest q r).phaseProd = b.phaseProd := by cases q <;> rfl
@[simp] theorem Block.setRequest_phaseCons (b : Block p) (q : Port) (r : Option (Request p)) : (b.setRequest q r).phaseCons = b.phaseCons := by cases q <;> rfl
@[simp] theorem Block.setRequest_plW (b : Block p) (q : Port) (r : Option (Request p)) : (b.setRequest q r).plW = b.plW := by cases q <;> rfl
@[simp] theorem Block.setRequest_plNW (b : Block p) (q : Port) (r : Option (Request p)) : (b.setRequest q r).plNW = b.plNW := by cases q <;> rfl
@[simp] theorem Block.setRequest_plD (b : Block p) (q : Port) (r : Option (Request p)) : (b.setRequest q r).plD = b.plD := by cases q <;> rfl
@[simp] theorem Block.setRequest_clR (b : Block p) (q : Port) (r : Option (Request p)) : (b.setRequest q r).clR = b.clR := by cases q <;> rfl
@[simp] theorem Block.setRequest_clNR (b : Block p) (q : Port) (r : Option (Request p)) : (b.setRequest q r).clNR = b.clNR := by cases q <;> rfl
@[simp] theorem Block.setRequest_clD (b : Block p) (q : Port) (r : Option (Request p)) : (b.setRequest q r).clD = b.clD := by cases q <;> rfl
@[simp] theorem Block.setRequest_popData (b : Block p) (q : Port) (r : Option (Request p)) : (b.setRequest q r).popData = b.popData := by cases q <;> rfl
@[simp] theorem Block.setRequest_popWritten (b : Block p) (q : Port) (r : Option (Request p)) : (b.setRequest q r).popWritten = b.popWritten := by cases q <;> rfl
@[simp] theorem Block.setRequest_storage (b : Block p) (q : Port) (r : Option (Request p)) : (b.setRequest q r).storage = b.storage := by cases q <;> rfl
@[simp] theorem Block.setRequest_reqCtrl (b : Block p) (q : Port) (r : Option (Request p)) : (b.setRequest q r).reqCtrl = if q = .ctrl then r else b.reqCtrl := by cases q <;> rfl
@[simp] theorem Block.setRequest_reqProd (b : Block p) (q : Port) (r : Option (Request p)) : (b.setRequest q r).reqProd = if q = .prod then r else b.reqProd := by cases q <;> rfl
@[simp] theorem Block.setRequest_reqCons (b : Block p) (q : Port) (r : Option (Request p)) : (b.setRequest q r).reqCons = if q = .cons then r else b.reqCons := by cases q <;> rfl
@[simp] theorem Block.setRequest_turn (b : Block p) (q : Port) (r : Option (Request p)) : (b.setRequest q r).turn = b.turn := by cases q <;> rfl
@[simp] theorem Block.setRequest_opnd (b : Block p) (q : Port) (r : Option (Request p)) : (b.setRequest q r).opnd = b.opnd := by cases q <;> rfl
@[simp] theorem Block.setRequest_responses (b : Block p) (q : Port) (r : Option (Request p)) : (b.setRequest q r).responses = b.responses := by cases q <;> rfl
@[simp] theorem Block.setRequest_events (b : Block p) (q : Port) (r : Option (Request p)) : (b.setRequest q r).events = b.events := by cases q <;> rfl
@[simp] theorem Block.setRequest_draws (b : Block p) (q : Port) (r : Option (Request p)) : (b.setRequest q r).draws = b.draws := by cases q <;> rfl

/-! ### complete -/

@[simp] theorem Block.complete_wrIdx (b : Block p) (q : Port) (rsp : Rsp) : (b.complete q rsp).wrIdx = b.wrIdx := Block.setIdle_wrIdx b q
@[simp] theorem Block.complete_rdIdx (b : Block p) (q : Port) (rsp : Rsp) : (b.complete q rsp).rdIdx = b.rdIdx := Block.setIdle_rdIdx b q
@[simp] theorem Block.complete_mask (b : Block p) (q : Port) (rsp : Rsp) : (b.complete q rsp).mask = b.mask := Block.setIdle_mask b q
@[simp] theorem Block.complete_base (b : Block p) (q : Port) (rsp : Rsp) : (b.complete q rsp).base = b.base := Block.setIdle_base b q
@[simp] theorem Block.complete_state (b : Block p) (q : Port) (rsp : Rsp) : (b.complete q rsp).state = b.state := Block.setIdle_state b q
@[simp] theorem Block.complete_faultCause (b : Block p) (q : Port) (rsp : Rsp) : (b.complete q rsp).faultCause = b.faultCause := Block.setIdle_faultCause b q
@[simp] theorem Block.complete_faultPort (b : Block p) (q : Port) (rsp : Rsp) : (b.complete q rsp).faultPort = b.faultPort := Block.setIdle_faultPort b q
@[simp] theorem Block.complete_faultCmd (b : Block p) (q : Port) (rsp : Rsp) : (b.complete q rsp).faultCmd = b.faultCmd := Block.setIdle_faultCmd b q
@[simp] theorem Block.complete_phaseCtrl (b : Block p) (q : Port) (rsp : Rsp) : (b.complete q rsp).phaseCtrl = CtrlPhase.idle := Block.setIdle_phaseCtrl b q
@[simp] theorem Block.complete_phaseProd (b : Block p) (q : Port) (rsp : Rsp) : (b.complete q rsp).phaseProd = if q = .prod then .idle else b.phaseProd := Block.setIdle_phaseProd b q
@[simp] theorem Block.complete_phaseCons (b : Block p) (q : Port) (rsp : Rsp) : (b.complete q rsp).phaseCons = if q = .cons then .idle else b.phaseCons := Block.setIdle_phaseCons b q
@[simp] theorem Block.complete_plW (b : Block p) (q : Port) (rsp : Rsp) : (b.complete q rsp).plW = b.plW := Block.setIdle_plW b q
@[simp] theorem Block.complete_plNW (b : Block p) (q : Port) (rsp : Rsp) : (b.complete q rsp).plNW = b.plNW := Block.setIdle_plNW b q
@[simp] theorem Block.complete_plD (b : Block p) (q : Port) (rsp : Rsp) : (b.complete q rsp).plD = b.plD := Block.setIdle_plD b q
@[simp] theorem Block.complete_clR (b : Block p) (q : Port) (rsp : Rsp) : (b.complete q rsp).clR = b.clR := Block.setIdle_clR b q
@[simp] theorem Block.complete_clNR (b : Block p) (q : Port) (rsp : Rsp) : (b.complete q rsp).clNR = b.clNR := Block.setIdle_clNR b q
@[simp] theorem Block.complete_clD (b : Block p) (q : Port) (rsp : Rsp) : (b.complete q rsp).clD = b.clD := Block.setIdle_clD b q
@[simp] theorem Block.complete_popData (b : Block p) (q : Port) (rsp : Rsp) : (b.complete q rsp).popData = b.popData := Block.setIdle_popData b q
@[simp] theorem Block.complete_popWritten (b : Block p) (q : Port) (rsp : Rsp) : (b.complete q rsp).popWritten = b.popWritten := Block.setIdle_popWritten b q
@[simp] theorem Block.complete_storage (b : Block p) (q : Port) (rsp : Rsp) : (b.complete q rsp).storage = b.storage := Block.setIdle_storage b q
@[simp] theorem Block.complete_reqCtrl (b : Block p) (q : Port) (rsp : Rsp) : (b.complete q rsp).reqCtrl = b.reqCtrl := Block.setIdle_reqCtrl b q
@[simp] theorem Block.complete_reqProd (b : Block p) (q : Port) (rsp : Rsp) : (b.complete q rsp).reqProd = b.reqProd := Block.setIdle_reqProd b q
@[simp] theorem Block.complete_reqCons (b : Block p) (q : Port) (rsp : Rsp) : (b.complete q rsp).reqCons = b.reqCons := Block.setIdle_reqCons b q
@[simp] theorem Block.complete_turn (b : Block p) (q : Port) (rsp : Rsp) : (b.complete q rsp).turn = b.turn := Block.setIdle_turn b q
@[simp] theorem Block.complete_opnd (b : Block p) (q : Port) (rsp : Rsp) : (b.complete q rsp).opnd = b.opnd := Block.setIdle_opnd b q
@[simp] theorem Block.complete_responses (b : Block p) (q : Port) (rsp : Rsp) : (b.complete q rsp).responses = b.responses ++ [{ port := q, rsp := rsp }] := rfl
@[simp] theorem Block.complete_events (b : Block p) (q : Port) (rsp : Rsp) : (b.complete q rsp).events = b.events := Block.setIdle_events b q
@[simp] theorem Block.complete_draws (b : Block p) (q : Port) (rsp : Rsp) : (b.complete q rsp).draws = b.draws := Block.setIdle_draws b q

/-! ### raise -/

@[simp] theorem Block.raise_wrIdx (b : Block p) (q : Port) (c : Cause) (cmd : CmdWord) : (b.raise q c cmd).wrIdx = b.wrIdx := Block.complete_wrIdx _ q .fault
@[simp] theorem Block.raise_rdIdx (b : Block p) (q : Port) (c : Cause) (cmd : CmdWord) : (b.raise q c cmd).rdIdx = b.rdIdx := Block.complete_rdIdx _ q .fault
@[simp] theorem Block.raise_mask (b : Block p) (q : Port) (c : Cause) (cmd : CmdWord) : (b.raise q c cmd).mask = b.mask := Block.complete_mask _ q .fault
@[simp] theorem Block.raise_base (b : Block p) (q : Port) (c : Cause) (cmd : CmdWord) : (b.raise q c cmd).base = b.base := Block.complete_base _ q .fault
@[simp] theorem Block.raise_state (b : Block p) (q : Port) (c : Cause) (cmd : CmdWord) : (b.raise q c cmd).state = .halted := Block.complete_state _ q .fault
@[simp] theorem Block.raise_faultCause (b : Block p) (q : Port) (c : Cause) (cmd : CmdWord) : (b.raise q c cmd).faultCause = c := Block.complete_faultCause _ q .fault
@[simp] theorem Block.raise_faultPort (b : Block p) (q : Port) (c : Cause) (cmd : CmdWord) : (b.raise q c cmd).faultPort = some q := Block.complete_faultPort _ q .fault
@[simp] theorem Block.raise_faultCmd (b : Block p) (q : Port) (c : Cause) (cmd : CmdWord) : (b.raise q c cmd).faultCmd = cmd := Block.complete_faultCmd _ q .fault
@[simp] theorem Block.raise_phaseCtrl (b : Block p) (q : Port) (c : Cause) (cmd : CmdWord) : (b.raise q c cmd).phaseCtrl = CtrlPhase.idle := Block.complete_phaseCtrl _ q .fault
@[simp] theorem Block.raise_phaseProd (b : Block p) (q : Port) (c : Cause) (cmd : CmdWord) : (b.raise q c cmd).phaseProd = if q = .prod then .idle else b.phaseProd := Block.complete_phaseProd _ q .fault
@[simp] theorem Block.raise_phaseCons (b : Block p) (q : Port) (c : Cause) (cmd : CmdWord) : (b.raise q c cmd).phaseCons = if q = .cons then .idle else b.phaseCons := Block.complete_phaseCons _ q .fault
@[simp] theorem Block.raise_plW (b : Block p) (q : Port) (c : Cause) (cmd : CmdWord) : (b.raise q c cmd).plW = b.plW := Block.complete_plW _ q .fault
@[simp] theorem Block.raise_plNW (b : Block p) (q : Port) (c : Cause) (cmd : CmdWord) : (b.raise q c cmd).plNW = b.plNW := Block.complete_plNW _ q .fault
@[simp] theorem Block.raise_plD (b : Block p) (q : Port) (c : Cause) (cmd : CmdWord) : (b.raise q c cmd).plD = b.plD := Block.complete_plD _ q .fault
@[simp] theorem Block.raise_clR (b : Block p) (q : Port) (c : Cause) (cmd : CmdWord) : (b.raise q c cmd).clR = b.clR := Block.complete_clR _ q .fault
@[simp] theorem Block.raise_clNR (b : Block p) (q : Port) (c : Cause) (cmd : CmdWord) : (b.raise q c cmd).clNR = b.clNR := Block.complete_clNR _ q .fault
@[simp] theorem Block.raise_clD (b : Block p) (q : Port) (c : Cause) (cmd : CmdWord) : (b.raise q c cmd).clD = b.clD := Block.complete_clD _ q .fault
@[simp] theorem Block.raise_popData (b : Block p) (q : Port) (c : Cause) (cmd : CmdWord) : (b.raise q c cmd).popData = b.popData := Block.complete_popData _ q .fault
@[simp] theorem Block.raise_popWritten (b : Block p) (q : Port) (c : Cause) (cmd : CmdWord) : (b.raise q c cmd).popWritten = b.popWritten := Block.complete_popWritten _ q .fault
@[simp] theorem Block.raise_storage (b : Block p) (q : Port) (c : Cause) (cmd : CmdWord) : (b.raise q c cmd).storage = b.storage := Block.complete_storage _ q .fault
@[simp] theorem Block.raise_reqCtrl (b : Block p) (q : Port) (c : Cause) (cmd : CmdWord) : (b.raise q c cmd).reqCtrl = b.reqCtrl := Block.complete_reqCtrl _ q .fault
@[simp] theorem Block.raise_reqProd (b : Block p) (q : Port) (c : Cause) (cmd : CmdWord) : (b.raise q c cmd).reqProd = b.reqProd := Block.complete_reqProd _ q .fault
@[simp] theorem Block.raise_reqCons (b : Block p) (q : Port) (c : Cause) (cmd : CmdWord) : (b.raise q c cmd).reqCons = b.reqCons := Block.complete_reqCons _ q .fault
@[simp] theorem Block.raise_turn (b : Block p) (q : Port) (c : Cause) (cmd : CmdWord) : (b.raise q c cmd).turn = b.turn := Block.complete_turn _ q .fault
@[simp] theorem Block.raise_opnd (b : Block p) (q : Port) (c : Cause) (cmd : CmdWord) : (b.raise q c cmd).opnd = b.opnd := Block.complete_opnd _ q .fault
@[simp] theorem Block.raise_responses (b : Block p) (q : Port) (c : Cause) (cmd : CmdWord) : (b.raise q c cmd).responses = b.responses ++ [{ port := q, rsp := .fault }] := rfl
@[simp] theorem Block.raise_events (b : Block p) (q : Port) (c : Cause) (cmd : CmdWord) : (b.raise q c cmd).events = b.events := Block.complete_events _ q .fault
@[simp] theorem Block.raise_draws (b : Block p) (q : Port) (c : Cause) (cmd : CmdWord) : (b.raise q c cmd).draws = b.draws := Block.complete_draws _ q .fault

/-! ### take -/

@[simp] theorem Block.take_wrIdx (b : Block p) (q : Port) (r : Request p) : (b.take q r).wrIdx = b.wrIdx := Block.setRequest_wrIdx b q none
@[simp] theorem Block.take_rdIdx (b : Block p) (q : Port) (r : Request p) : (b.take q r).rdIdx = b.rdIdx := Block.setRequest_rdIdx b q none
@[simp] theorem Block.take_mask (b : Block p) (q : Port) (r : Request p) : (b.take q r).mask = b.mask := Block.setRequest_mask b q none
@[simp] theorem Block.take_base (b : Block p) (q : Port) (r : Request p) : (b.take q r).base = b.base := Block.setRequest_base b q none
@[simp] theorem Block.take_state (b : Block p) (q : Port) (r : Request p) : (b.take q r).state = b.state := Block.setRequest_state b q none
@[simp] theorem Block.take_faultCause (b : Block p) (q : Port) (r : Request p) : (b.take q r).faultCause = b.faultCause := Block.setRequest_faultCause b q none
@[simp] theorem Block.take_faultPort (b : Block p) (q : Port) (r : Request p) : (b.take q r).faultPort = b.faultPort := Block.setRequest_faultPort b q none
@[simp] theorem Block.take_faultCmd (b : Block p) (q : Port) (r : Request p) : (b.take q r).faultCmd = b.faultCmd := Block.setRequest_faultCmd b q none
@[simp] theorem Block.take_phaseCtrl (b : Block p) (q : Port) (r : Request p) : (b.take q r).phaseCtrl = b.phaseCtrl := Block.setRequest_phaseCtrl b q none
@[simp] theorem Block.take_phaseProd (b : Block p) (q : Port) (r : Request p) : (b.take q r).phaseProd = b.phaseProd := Block.setRequest_phaseProd b q none
@[simp] theorem Block.take_phaseCons (b : Block p) (q : Port) (r : Request p) : (b.take q r).phaseCons = b.phaseCons := Block.setRequest_phaseCons b q none
@[simp] theorem Block.take_plW (b : Block p) (q : Port) (r : Request p) : (b.take q r).plW = b.plW := Block.setRequest_plW b q none
@[simp] theorem Block.take_plNW (b : Block p) (q : Port) (r : Request p) : (b.take q r).plNW = b.plNW := Block.setRequest_plNW b q none
@[simp] theorem Block.take_plD (b : Block p) (q : Port) (r : Request p) : (b.take q r).plD = b.plD := Block.setRequest_plD b q none
@[simp] theorem Block.take_clR (b : Block p) (q : Port) (r : Request p) : (b.take q r).clR = b.clR := Block.setRequest_clR b q none
@[simp] theorem Block.take_clNR (b : Block p) (q : Port) (r : Request p) : (b.take q r).clNR = b.clNR := Block.setRequest_clNR b q none
@[simp] theorem Block.take_clD (b : Block p) (q : Port) (r : Request p) : (b.take q r).clD = b.clD := Block.setRequest_clD b q none
@[simp] theorem Block.take_popData (b : Block p) (q : Port) (r : Request p) : (b.take q r).popData = b.popData := Block.setRequest_popData b q none
@[simp] theorem Block.take_popWritten (b : Block p) (q : Port) (r : Request p) : (b.take q r).popWritten = b.popWritten := Block.setRequest_popWritten b q none
@[simp] theorem Block.take_storage (b : Block p) (q : Port) (r : Request p) : (b.take q r).storage = b.storage := Block.setRequest_storage b q none
@[simp] theorem Block.take_reqCtrl (b : Block p) (q : Port) (r : Request p) : (b.take q r).reqCtrl = if q = .ctrl then none else b.reqCtrl := Block.setRequest_reqCtrl b q none
@[simp] theorem Block.take_reqProd (b : Block p) (q : Port) (r : Request p) : (b.take q r).reqProd = if q = .prod then none else b.reqProd := Block.setRequest_reqProd b q none
@[simp] theorem Block.take_reqCons (b : Block p) (q : Port) (r : Request p) : (b.take q r).reqCons = if q = .cons then none else b.reqCons := Block.setRequest_reqCons b q none
@[simp] theorem Block.take_turn (b : Block p) (q : Port) (r : Request p) : (b.take q r).turn = q := rfl
@[simp] theorem Block.take_opnd (b : Block p) (q : Port) (r : Request p) : (b.take q r).opnd = r.opnd := rfl
@[simp] theorem Block.take_responses (b : Block p) (q : Port) (r : Request p) : (b.take q r).responses = b.responses := Block.setRequest_responses b q none
@[simp] theorem Block.take_events (b : Block p) (q : Port) (r : Request p) : (b.take q r).events = b.events := Block.setRequest_events b q none
@[simp] theorem Block.take_draws (b : Block p) (q : Port) (r : Request p) : (b.take q r).draws = b.draws := Block.setRequest_draws b q none

/-! ### moved -/

@[simp] theorem Block.moved_wrIdx (b : Block p) (rest : List (Event p)) (n : Nat) : (b.moved rest n).wrIdx = b.wrIdx := rfl
@[simp] theorem Block.moved_rdIdx (b : Block p) (rest : List (Event p)) (n : Nat) : (b.moved rest n).rdIdx = b.rdIdx := rfl
@[simp] theorem Block.moved_mask (b : Block p) (rest : List (Event p)) (n : Nat) : (b.moved rest n).mask = b.mask := rfl
@[simp] theorem Block.moved_base (b : Block p) (rest : List (Event p)) (n : Nat) : (b.moved rest n).base = b.base := rfl
@[simp] theorem Block.moved_state (b : Block p) (rest : List (Event p)) (n : Nat) : (b.moved rest n).state = b.state := rfl
@[simp] theorem Block.moved_faultCause (b : Block p) (rest : List (Event p)) (n : Nat) : (b.moved rest n).faultCause = b.faultCause := rfl
@[simp] theorem Block.moved_faultPort (b : Block p) (rest : List (Event p)) (n : Nat) : (b.moved rest n).faultPort = b.faultPort := rfl
@[simp] theorem Block.moved_faultCmd (b : Block p) (rest : List (Event p)) (n : Nat) : (b.moved rest n).faultCmd = b.faultCmd := rfl
@[simp] theorem Block.moved_phaseCtrl (b : Block p) (rest : List (Event p)) (n : Nat) : (b.moved rest n).phaseCtrl = b.phaseCtrl := rfl
@[simp] theorem Block.moved_phaseProd (b : Block p) (rest : List (Event p)) (n : Nat) : (b.moved rest n).phaseProd = b.phaseProd := rfl
@[simp] theorem Block.moved_phaseCons (b : Block p) (rest : List (Event p)) (n : Nat) : (b.moved rest n).phaseCons = b.phaseCons := rfl
@[simp] theorem Block.moved_plW (b : Block p) (rest : List (Event p)) (n : Nat) : (b.moved rest n).plW = b.plW := rfl
@[simp] theorem Block.moved_plNW (b : Block p) (rest : List (Event p)) (n : Nat) : (b.moved rest n).plNW = b.plNW := rfl
@[simp] theorem Block.moved_plD (b : Block p) (rest : List (Event p)) (n : Nat) : (b.moved rest n).plD = b.plD := rfl
@[simp] theorem Block.moved_clR (b : Block p) (rest : List (Event p)) (n : Nat) : (b.moved rest n).clR = b.clR := rfl
@[simp] theorem Block.moved_clNR (b : Block p) (rest : List (Event p)) (n : Nat) : (b.moved rest n).clNR = b.clNR := rfl
@[simp] theorem Block.moved_clD (b : Block p) (rest : List (Event p)) (n : Nat) : (b.moved rest n).clD = b.clD := rfl
@[simp] theorem Block.moved_popData (b : Block p) (rest : List (Event p)) (n : Nat) : (b.moved rest n).popData = b.popData := rfl
@[simp] theorem Block.moved_popWritten (b : Block p) (rest : List (Event p)) (n : Nat) : (b.moved rest n).popWritten = b.popWritten := rfl
@[simp] theorem Block.moved_storage (b : Block p) (rest : List (Event p)) (n : Nat) : (b.moved rest n).storage = b.storage := rfl
@[simp] theorem Block.moved_reqCtrl (b : Block p) (rest : List (Event p)) (n : Nat) : (b.moved rest n).reqCtrl = b.reqCtrl := rfl
@[simp] theorem Block.moved_reqProd (b : Block p) (rest : List (Event p)) (n : Nat) : (b.moved rest n).reqProd = b.reqProd := rfl
@[simp] theorem Block.moved_reqCons (b : Block p) (rest : List (Event p)) (n : Nat) : (b.moved rest n).reqCons = b.reqCons := rfl
@[simp] theorem Block.moved_turn (b : Block p) (rest : List (Event p)) (n : Nat) : (b.moved rest n).turn = b.turn := rfl
@[simp] theorem Block.moved_opnd (b : Block p) (rest : List (Event p)) (n : Nat) : (b.moved rest n).opnd = b.opnd := rfl
@[simp] theorem Block.moved_responses (b : Block p) (rest : List (Event p)) (n : Nat) : (b.moved rest n).responses = b.responses := rfl
@[simp] theorem Block.moved_events (b : Block p) (rest : List (Event p)) (n : Nat) : (b.moved rest n).events = rest := rfl
@[simp] theorem Block.moved_draws (b : Block p) (rest : List (Event p)) (n : Nat) : (b.moved rest n).draws = n := rfl

/-! ### turnGiven -/

@[simp] theorem Block.turnGiven_wrIdx (b : Block p) : (b.turnGiven).wrIdx = b.wrIdx := by unfold Block.turnGiven; split <;> rfl
@[simp] theorem Block.turnGiven_rdIdx (b : Block p) : (b.turnGiven).rdIdx = b.rdIdx := by unfold Block.turnGiven; split <;> rfl
@[simp] theorem Block.turnGiven_mask (b : Block p) : (b.turnGiven).mask = b.mask := by unfold Block.turnGiven; split <;> rfl
@[simp] theorem Block.turnGiven_base (b : Block p) : (b.turnGiven).base = b.base := by unfold Block.turnGiven; split <;> rfl
@[simp] theorem Block.turnGiven_state (b : Block p) : (b.turnGiven).state = b.state := by unfold Block.turnGiven; split <;> rfl
@[simp] theorem Block.turnGiven_faultCause (b : Block p) : (b.turnGiven).faultCause = b.faultCause := by unfold Block.turnGiven; split <;> rfl
@[simp] theorem Block.turnGiven_faultPort (b : Block p) : (b.turnGiven).faultPort = b.faultPort := by unfold Block.turnGiven; split <;> rfl
@[simp] theorem Block.turnGiven_faultCmd (b : Block p) : (b.turnGiven).faultCmd = b.faultCmd := by unfold Block.turnGiven; split <;> rfl
@[simp] theorem Block.turnGiven_phaseCtrl (b : Block p) : (b.turnGiven).phaseCtrl = b.phaseCtrl := by unfold Block.turnGiven; split <;> rfl
@[simp] theorem Block.turnGiven_phaseProd (b : Block p) : (b.turnGiven).phaseProd = b.phaseProd := by unfold Block.turnGiven; split <;> rfl
@[simp] theorem Block.turnGiven_phaseCons (b : Block p) : (b.turnGiven).phaseCons = b.phaseCons := by unfold Block.turnGiven; split <;> rfl
@[simp] theorem Block.turnGiven_plW (b : Block p) : (b.turnGiven).plW = b.plW := by unfold Block.turnGiven; split <;> rfl
@[simp] theorem Block.turnGiven_plNW (b : Block p) : (b.turnGiven).plNW = b.plNW := by unfold Block.turnGiven; split <;> rfl
@[simp] theorem Block.turnGiven_plD (b : Block p) : (b.turnGiven).plD = b.plD := by unfold Block.turnGiven; split <;> rfl
@[simp] theorem Block.turnGiven_clR (b : Block p) : (b.turnGiven).clR = b.clR := by unfold Block.turnGiven; split <;> rfl
@[simp] theorem Block.turnGiven_clNR (b : Block p) : (b.turnGiven).clNR = b.clNR := by unfold Block.turnGiven; split <;> rfl
@[simp] theorem Block.turnGiven_clD (b : Block p) : (b.turnGiven).clD = b.clD := by unfold Block.turnGiven; split <;> rfl
@[simp] theorem Block.turnGiven_popData (b : Block p) : (b.turnGiven).popData = b.popData := by unfold Block.turnGiven; split <;> rfl
@[simp] theorem Block.turnGiven_popWritten (b : Block p) : (b.turnGiven).popWritten = b.popWritten := by unfold Block.turnGiven; split <;> rfl
@[simp] theorem Block.turnGiven_storage (b : Block p) : (b.turnGiven).storage = b.storage := by unfold Block.turnGiven; split <;> rfl
@[simp] theorem Block.turnGiven_reqCtrl (b : Block p) : (b.turnGiven).reqCtrl = b.reqCtrl := by unfold Block.turnGiven; split <;> rfl
@[simp] theorem Block.turnGiven_reqProd (b : Block p) : (b.turnGiven).reqProd = b.reqProd := by unfold Block.turnGiven; split <;> rfl
@[simp] theorem Block.turnGiven_reqCons (b : Block p) : (b.turnGiven).reqCons = b.reqCons := by unfold Block.turnGiven; split <;> rfl
@[simp] theorem Block.turnGiven_turn (b : Block p) : (b.turnGiven).turn = b.turn := by unfold Block.turnGiven; split <;> rfl
@[simp] theorem Block.turnGiven_opnd (b : Block p) : (b.turnGiven).opnd = b.opnd := by unfold Block.turnGiven; split <;> rfl
@[simp] theorem Block.turnGiven_responses (b : Block p) : (b.turnGiven).responses = b.responses := by unfold Block.turnGiven; split <;> rfl

/-! ### atTurn -/

@[simp] theorem Block.atTurn_wrIdx (b : Block p) (q : Port) : (b.atTurn q).wrIdx = b.wrIdx := rfl
@[simp] theorem Block.atTurn_rdIdx (b : Block p) (q : Port) : (b.atTurn q).rdIdx = b.rdIdx := rfl
@[simp] theorem Block.atTurn_mask (b : Block p) (q : Port) : (b.atTurn q).mask = b.mask := rfl
@[simp] theorem Block.atTurn_base (b : Block p) (q : Port) : (b.atTurn q).base = b.base := rfl
@[simp] theorem Block.atTurn_state (b : Block p) (q : Port) : (b.atTurn q).state = b.state := rfl
@[simp] theorem Block.atTurn_faultCause (b : Block p) (q : Port) : (b.atTurn q).faultCause = b.faultCause := rfl
@[simp] theorem Block.atTurn_faultPort (b : Block p) (q : Port) : (b.atTurn q).faultPort = b.faultPort := rfl
@[simp] theorem Block.atTurn_faultCmd (b : Block p) (q : Port) : (b.atTurn q).faultCmd = b.faultCmd := rfl
@[simp] theorem Block.atTurn_phaseCtrl (b : Block p) (q : Port) : (b.atTurn q).phaseCtrl = b.phaseCtrl := rfl
@[simp] theorem Block.atTurn_phaseProd (b : Block p) (q : Port) : (b.atTurn q).phaseProd = b.phaseProd := rfl
@[simp] theorem Block.atTurn_phaseCons (b : Block p) (q : Port) : (b.atTurn q).phaseCons = b.phaseCons := rfl
@[simp] theorem Block.atTurn_plW (b : Block p) (q : Port) : (b.atTurn q).plW = b.plW := rfl
@[simp] theorem Block.atTurn_plNW (b : Block p) (q : Port) : (b.atTurn q).plNW = b.plNW := rfl
@[simp] theorem Block.atTurn_plD (b : Block p) (q : Port) : (b.atTurn q).plD = b.plD := rfl
@[simp] theorem Block.atTurn_clR (b : Block p) (q : Port) : (b.atTurn q).clR = b.clR := rfl
@[simp] theorem Block.atTurn_clNR (b : Block p) (q : Port) : (b.atTurn q).clNR = b.clNR := rfl
@[simp] theorem Block.atTurn_clD (b : Block p) (q : Port) : (b.atTurn q).clD = b.clD := rfl
@[simp] theorem Block.atTurn_popData (b : Block p) (q : Port) : (b.atTurn q).popData = b.popData := rfl
@[simp] theorem Block.atTurn_popWritten (b : Block p) (q : Port) : (b.atTurn q).popWritten = b.popWritten := rfl
@[simp] theorem Block.atTurn_storage (b : Block p) (q : Port) : (b.atTurn q).storage = b.storage := rfl
@[simp] theorem Block.atTurn_reqCtrl (b : Block p) (q : Port) : (b.atTurn q).reqCtrl = b.reqCtrl := rfl
@[simp] theorem Block.atTurn_reqProd (b : Block p) (q : Port) : (b.atTurn q).reqProd = b.reqProd := rfl
@[simp] theorem Block.atTurn_reqCons (b : Block p) (q : Port) : (b.atTurn q).reqCons = b.reqCons := rfl
@[simp] theorem Block.atTurn_turn (b : Block p) (q : Port) : (b.atTurn q).turn = q := rfl
@[simp] theorem Block.atTurn_opnd (b : Block p) (q : Port) : (b.atTurn q).opnd = b.opnd := rfl
@[simp] theorem Block.atTurn_responses (b : Block p) (q : Port) : (b.atTurn q).responses = b.responses := rfl
@[simp] theorem Block.atTurn_events (b : Block p) (q : Port) : (b.atTurn q).events = b.events := rfl
@[simp] theorem Block.atTurn_draws (b : Block p) (q : Port) : (b.atTurn q).draws = b.draws := rfl

/-! ### What a port's accessors say after an update -/

@[simp] theorem Block.request_setRequest (b : Block p) (q q' : Port) (r : Option (Request p)) :
    (b.setRequest q r).request q' = if q = q' then r else b.request q' := by cases q <;> cases q' <;> rfl

@[simp] theorem Block.busy_setRequest (b : Block p) (q q' : Port) (r : Option (Request p)) :
    (b.setRequest q r).busy q' = b.busy q' := by cases q <;> cases q' <;> rfl

@[simp] theorem Block.busy_setIdle (b : Block p) (q q' : Port) :
    (b.setIdle q).busy q' = (b.busy q' && q != q') := by
  cases q <;> cases q' <;> simp [Block.busy, Block.setIdle]

@[simp] theorem Block.request_moved (b : Block p) (rest : List (Event p)) (n : Nat) (q : Port) :
    (b.moved rest n).request q = b.request q := by cases q <;> rfl

@[simp] theorem Block.request_turnGiven (b : Block p) (q : Port) : b.turnGiven.request q = b.request q := by
  cases q <;> simp [Block.request]

@[simp] theorem Block.busy_turnGiven (b : Block p) (q : Port) : b.turnGiven.busy q = b.busy q := by
  cases q <;> simp [Block.busy]

@[simp] theorem Block.busy_moved (b : Block p) (rest : List (Event p)) (n : Nat) (q : Port) :
    (b.moved rest n).busy q = b.busy q := by cases q <;> rfl

@[simp] theorem Block.request_atTurn (b : Block p) (q q' : Port) :
    (b.atTurn q).request q' = b.request q' := by cases q' <;> rfl

@[simp] theorem Block.busy_atTurn (b : Block p) (q q' : Port) :
    (b.atTurn q).busy q' = b.busy q' := by cases q' <;> rfl

@[simp] theorem Block.busy_ctrl (b : Block p) : b.busy .ctrl = false := by
  cases h : b.phaseCtrl; simp [Block.busy, h]

@[simp] theorem Block.busy_prod (b : Block p) : b.busy .prod = (b.phaseProd != .idle) := rfl

@[simp] theorem Block.busy_cons (b : Block p) : b.busy .cons = (b.phaseCons != .idle) := rfl

@[simp] theorem Block.request_ctrl (b : Block p) : b.request .ctrl = b.reqCtrl := rfl

@[simp] theorem Block.request_prod (b : Block p) : b.request .prod = b.reqProd := rfl

@[simp] theorem Block.request_cons (b : Block p) : b.request .cons = b.reqCons := rfl

@[simp] theorem BlockOutcome.toState_next (b : Block p) :
    BlockOutcome.toState (.next b) = .next { par := p, blk := b } := rfl

@[simp] theorem BlockOutcome.toState_fault (f : Fault) :
    BlockOutcome.toState (p := p) (.fault f) = .fault f := rfl

end Sys2Proof.Machine
end

