-- ==== Sys2Proof/Laws/Memory.lean ====
section
/-! SUPPORT. The storage keeps its canonical form under every operation. -/

namespace Sys2Proof.Machine

variable {p : Params}

theorem Memory.wfFrom_mono {lo lo' : Nat} (h : lo ≤ lo') :
    ∀ {m : Memory p}, Memory.wfFrom lo' m = true → Memory.wfFrom lo m = true
  | [], _ => rfl
  | (a, v) :: m, hm => by
    simp only [Memory.wfFrom, Bool.and_eq_true, decide_eq_true_eq] at hm ⊢
    exact ⟨⟨le_trans h hm.1.1, hm.1.2⟩, hm.2⟩

theorem Memory.put_wfFrom {n : Nat} (hn : n < 2 ^ p.aw) (d : Elem p) :
    ∀ {lo : Nat} {m : Memory p}, lo ≤ n → Memory.wfFrom lo m = true →
      Memory.wfFrom lo (Memory.put n d m) = true
  | lo, [], hlo, _ => by simp [Memory.put, Memory.wfFrom, hlo, hn]
  | lo, (k, v) :: m, hlo, hm => by
    simp only [Memory.wfFrom, Bool.and_eq_true, decide_eq_true_eq] at hm
    unfold Memory.put
    split
    · next hk => simp [Memory.wfFrom, hlo, hn, hm, Nat.succ_le_of_lt hk]
    · split
      · next hk => subst hk; simp [Memory.wfFrom, hlo, hn, hm]
      · next h1 h2 =>
        have hlt : k + 1 ≤ n := by omega
        simp [Memory.wfFrom, hm, Memory.put_wfFrom hn d hlt hm.2]

/-- Every slot write keeps the canonical form. -/
theorem Memory.write_wf {m : Memory p} (hm : m.wf = true) (a : Addr p) (d : Elem p) :
    (m.write a d).wf = true :=
  Memory.put_wfFrom a.isLt d (Nat.zero_le _) hm

/-- The storage at reset has the canonical form. -/
theorem Memory.initial_wf (p : Params) : (Block.initial p).storage.wf = true := rfl

end Sys2Proof.Machine
end

