-- ==== Sys2Proof/Laws/Ops.lean ====
section
/-! SUPPORT. What each shared operation and each micro-step can do, said once: later proofs cite these
instead of unfolding. -/

namespace Sys2Proof.Machine

variable {p : Params}

/-- Acceptance of a command does one of three things (60_exceptions.md R142 to R144). -/
theorem Block.accept_cases (b : Block p) (i : Instr) (first : Block p) :
    (b.state = .halted ∧ b.accept i first = b.complete b.turn .fault) ∨
    (b.state ≠ .halted ∧ b.acceptCheck b.turn i ≠ .none ∧
      b.accept i first = b.raise b.turn (b.acceptCheck b.turn i) (encode i)) ∨
    (b.state ≠ .halted ∧ b.acceptCheck b.turn i = .none ∧ b.accept i first = first) := by
  unfold Block.accept
  by_cases hs : b.state = .halted
  · simp [hs]
  · cases hc : b.acceptCheck b.turn i <;> simp [hs]

/-- Where no check applies, the first micro-step runs. -/
theorem Block.accept_of_clear {b : Block p} {i : Instr} (first : Block p) (hs : b.state ≠ .halted)
    (hc : b.acceptCheck b.turn i = .none) : b.accept i first = first := by
  simp [Block.accept, hs, hc]

/-- Where a check applies, its fault is raised. -/
theorem Block.accept_of_check {b : Block p} {i : Instr} {c : Cause} (first : Block p)
    (hs : b.state ≠ .halted) (hc : b.acceptCheck b.turn i = c) (hn : c ≠ .none) :
    b.accept i first = b.raise b.turn c (encode i) := by
  cases c <;> simp_all [Block.accept]

/-- In HALTED the command responds 10. -/
theorem Block.accept_of_halted {b : Block p} (i : Instr) (first : Block p) (hs : b.state = .halted) :
    b.accept i first = b.complete b.turn .fault := by
  simp [Block.accept, hs]

/-- No check applies to a command exactly where it is permitted, the block is configured if it must be,
and SETUP's own checks pass. -/
theorem Block.acceptCheck_eq_none (b : Block p) (q : Port) (i : Instr) :
    b.acceptCheck q i = .none ↔
      permitted i q = true ∧ ¬ (needsSetup i = true ∧ b.state = .uncfg) ∧ b.setupCheck i = .none := by
  unfold Block.acceptCheck
  cases permitted i q <;> cases needsSetup i <;> cases b.state <;> simp

/-- SETUP's own checks pass exactly where nothing is in flight and the capacity is legal. -/
theorem Block.setupCheck_eq_none (b : Block p) (cap : Nat) :
    b.setupCheck (.setup cap) = .none ↔
      b.phaseProd = .idle ∧ b.phaseCons = .idle ∧ capLegal p cap = true := by
  by_cases h1 : b.phaseProd = .idle <;> by_cases h2 : b.phaseCons = .idle <;>
    cases h3 : capLegal p cap <;> simp [Block.setupCheck, h1, h2, h3]

/-- The acceptance checks never answer ILLEGAL_ENCODING: that is the decoder's. -/
theorem Block.acceptCheck_ne_illegal (b : Block p) (q : Port) (i : Instr) :
    b.acceptCheck q i ≠ .illegalEncoding := by
  unfold Block.acceptCheck
  cases i <;> simp only [Block.setupCheck] <;> (repeat' split) <;> simp

/-- A micro-step of a command in flight is abandoned or runs (60_exceptions.md R145). -/
theorem Block.continuing_next {b b' : Block p} {q : Port} {run : BlockOutcome p}
    (h : b.continuing q run = .next b') :
    (b.state = .halted ∧ b' = b.complete q .fault) ∨ (b.state ≠ .halted ∧ run = .next b') := by
  unfold Block.continuing at h
  split at h
  · next hs => cases h; exact .inl ⟨hs, rfl⟩
  · next hs => exact .inr ⟨hs, h⟩

/-- POP.R answers a next state exactly where the slot has been written. -/
theorem Block.popR_next {b b' : Block p} (h : b.popR = .next b') :
    ∃ d, b.storage.read (b.slotAddr b.clR) = some d ∧ b' = { b with clD := d, phaseCons := .poP } := by
  unfold Block.popR at h
  split at h
  · cases h
  · next d hd => cases h; exact ⟨d, hd, rfl⟩

end Sys2Proof.Machine
end

