-- ==== Sys2Proof/Laws/Turn.lean ====
section
/-! SUPPORT. What a turn of a port and a step of the machine can do, said once: every invariant is a case
analysis of `StepCase` and `MicroStep`. -/

namespace Sys2Proof.Machine

variable {p : Params}

/-- `cmd` is the word that acceptance records for a request with command word `w`: the word itself where it
is illegal, else the word of the command it decodes to. -/
def RecordedWord (w cmd : CmdWord) : Prop :=
  (∃ e, decode w = .error e ∧ cmd = w) ∨ (∃ i, decode w = .ok i ∧ cmd = encode i)

/-- What port `q` can do with its turn, with the conditions under which it does it. -/
inductive MicroStep (b : Block p) : Port → Block p → Prop where
  /-- Nothing in flight, nothing presented. -/
  | void {q : Port} (free : b.busy q = false) (none : b.request q = none) : MicroStep b q b
  /-- A request while HALTED (60_exceptions.md R144). -/
  | refused {q : Port} {r : Request p} (free : b.busy q = false) (req : b.request q = some r)
      (halted : b.state = .halted) : MicroStep b q ((b.take q r).complete q .fault)
  /-- A request to which a check applies (60_exceptions.md R142, R143). -/
  | violation {q : Port} {r : Request p} {c : Cause} {cmd : CmdWord} (free : b.busy q = false)
      (req : b.request q = some r) (live : b.state ≠ .halted) (cause : c ≠ .none)
      (word : RecordedWord r.cmd cmd) : MicroStep b q ((b.take q r).raise q c cmd)
  /-- SETUP (40_setup.md R100). -/
  | setup {r : Request p} {cap : Nat} (req : b.request .ctrl = some r) (live : b.state ≠ .halted)
      (word : decode r.cmd = .ok (.setup cap)) (prodIdle : b.phaseProd = .idle)
      (consIdle : b.phaseCons = .idle) (legal : capLegal p cap = true) :
      MicroStep b .ctrl ((b.take .ctrl r).setup cap)
  /-- PUSH.S (41_push.md R110). -/
  | pushS {r : Request p} (free : b.phaseProd = .idle) (req : b.request .prod = some r)
      (ready : b.state = .ready) (word : decode r.cmd = .ok .push) :
      MicroStep b .prod (b.take .prod r).pushS
  /-- PUSH.W (41_push.md R111). -/
  | pushW (phase : b.phaseProd = .puW) (live : b.state ≠ .halted) :
      MicroStep b .prod (b.atTurn .prod).pushW
  /-- PUSH.P (41_push.md R112). -/
  | pushP (phase : b.phaseProd = .puP) (live : b.state ≠ .halted) :
      MicroStep b .prod (b.atTurn .prod).pushP
  /-- POP.S (42_pop.md R120). -/
  | popS {r : Request p} (free : b.phaseCons = .idle) (req : b.request .cons = some r)
      (ready : b.state = .ready) (word : decode r.cmd = .ok .pop) :
      MicroStep b .cons (b.take .cons r).popS
  /-- POP.R (42_pop.md R121). -/
  | popR {d : Elem p} (phase : b.phaseCons = .poR) (live : b.state ≠ .halted)
      (slot : b.storage.read (b.slotAddr b.clR) = some d) :
      MicroStep b .cons { b.atTurn .cons with clD := d, phaseCons := .poP }
  /-- POP.P (42_pop.md R122). -/
  | popP (phase : b.phaseCons = .poP) (live : b.state ≠ .halted) :
      MicroStep b .cons (b.atTurn .cons).popP
  /-- IS_EMPTY (43_is_empty.md R130). -/
  | isEmpty {q : Port} {r : Request p} (free : b.busy q = false) (req : b.request q = some r)
      (live : b.state ≠ .halted) (word : decode r.cmd = .ok .isEmpty) (port : q ≠ .ctrl) :
      MicroStep b q (b.take q r).reportEmpty
  /-- A command in flight while HALTED (60_exceptions.md R145). -/
  | abandon {q : Port} (busy : b.busy q = true) (halted : b.state = .halted) :
      MicroStep b q ((b.atTurn q).complete q .fault)

/-- Acceptance answers a next state, and which one. -/
theorem State.accept_cases {b : Block p} {q : Port} {r : Request p} (free : b.busy q = false)
    (req : b.request q = some r) :
    ∃ b', State.accept { par := p, blk := b } q r = .next { par := p, blk := b' } ∧ MicroStep b q b' := by
  have hst : (b.take q r).state = b.state := Block.take_state b q r
  have hturn : (b.take q r).turn = q := Block.take_turn b q r
  have hcheck : ∀ i first, (b.take q r).accept i first = first ∧ b.state ≠ .halted ∧
        (b.take q r).acceptCheck q i = .none ∨
      (decode r.cmd = .ok i → MicroStep b q ((b.take q r).accept i first)) := by
    intro i first
    rcases (b.take q r).accept_cases i first with ⟨hs, he⟩ | ⟨hs, hc, he⟩ | ⟨hs, hc, he⟩
    · refine .inr fun _ => ?_
      rw [he, hturn]
      exact .refused free req (hst ▸ hs)
    · refine .inr fun hd => ?_
      rw [he, hturn]
      exact .violation free req (hst ▸ hs) (hturn ▸ hc) (.inr ⟨i, hd, rfl⟩)
    · exact .inl ⟨he, hst ▸ hs, hturn ▸ hc⟩
  unfold State.accept
  split
  · next e hd =>
    refine ⟨_, rfl, ?_⟩
    unfold Block.acceptIllegal
    rw [hst, hturn]
    split
    · next hs => exact .refused free req hs
    · next hs => exact .violation free req hs (by decide) (.inl ⟨e, hd, rfl⟩)
  · next i hd =>
    cases i with
    | setup cap =>
      refine ⟨_, rfl, ?_⟩
      rcases hcheck (.setup cap) ((b.take q r).setup cap) with ⟨he, hs, hc⟩ | h
      · dsimp only
        rw [he]
        obtain ⟨hp, -, hk⟩ := (Block.acceptCheck_eq_none _ _ _).1 hc
        obtain ⟨h1, h2, h3⟩ := (Block.setupCheck_eq_none _ _).1 hk
        obtain rfl : q = .ctrl := by cases q <;> first | rfl | cases hp
        exact .setup req hs hd (by simpa using h1) (by simpa using h2) h3
      · exact h hd
    | push =>
      have hin : ∀ x : Block p, (x.turn = .prod → x.phaseProd = .idle) →
          x.pushStep = .next (x.accept .push x.pushS) := by
        intro x hx
        unfold Block.pushStep
        split
        · next ht => simp [hx ht]
        · rfl
      refine ⟨(b.take q r).accept .push (b.take q r).pushS, ?_, ?_⟩
      · show BlockOutcome.toState _ = _
        rw [hin]
        · rfl
        · intro ht
          obtain rfl : q = .prod := hturn ▸ ht
          simpa [Block.busy] using free
      · rcases hcheck .push (b.take q r).pushS with ⟨he, hs, hc⟩ | h
        · rw [he]
          obtain ⟨hp, hk, -⟩ := (Block.acceptCheck_eq_none _ _ _).1 hc
          obtain rfl : q = .prod := by cases q <;> first | rfl | cases hp
          refine .pushS (by simpa [Block.busy] using free) req ?_ hd
          rw [hst] at hk
          cases hb : b.state <;> simp_all [needsSetup]
        · exact h hd
    | pop =>
      have hin : ∀ x : Block p, (x.turn = .cons → x.phaseCons = .idle) →
          x.popStep = .next (x.accept .pop x.popS) := by
        intro x hx
        unfold Block.popStep
        split
        · next ht => simp [hx ht]
        · rfl
      refine ⟨(b.take q r).accept .pop (b.take q r).popS, ?_, ?_⟩
      · show BlockOutcome.toState _ = _
        rw [hin]
        · rfl
        · intro ht
          obtain rfl : q = .cons := hturn ▸ ht
          simpa [Block.busy] using free
      · rcases hcheck .pop (b.take q r).popS with ⟨he, hs, hc⟩ | h
        · rw [he]
          obtain ⟨hp, hk, -⟩ := (Block.acceptCheck_eq_none _ _ _).1 hc
          obtain rfl : q = .cons := by cases q <;> first | rfl | cases hp
          refine .popS (by simpa [Block.busy] using free) req ?_ hd
          rw [hst] at hk
          cases hb : b.state <;> simp_all [needsSetup]
        · exact h hd
    | isEmpty =>
      refine ⟨_, rfl, ?_⟩
      rcases hcheck .isEmpty (b.take q r).reportEmpty with ⟨he, hs, hc⟩ | h
      · dsimp only
        rw [he]
        obtain ⟨hp, -, -⟩ := (Block.acceptCheck_eq_none _ _ _).1 hc
        exact .isEmpty free req hs hd (by rintro rfl; cases hp)
      · exact h hd

/-- A turn that answers a next state keeps the parameters and is one of the micro-steps. -/
theorem State.takeTurn_cases {b : Block p} {q : Port} {t : State}
    (h : State.takeTurn { par := p, blk := b } q = .next t) :
    ∃ b', t = { par := p, blk := b' } ∧ MicroStep b q b' := by
  unfold State.takeTurn at h
  split at h
  · next hb =>
    cases q with
    | ctrl => simp at hb
    | prod =>
      simp only [inFlight, exec, execPush, Block.pushStep, if_true] at h
      split at h
      · next hp => simp_all [Block.busy]
      · next hp =>
        unfold Block.continuing at h
        split at h <;> cases h
        · next hs => exact ⟨_, rfl, .abandon hb hs⟩
        · next hs => exact ⟨_, rfl, .pushW hp hs⟩
      · next hp =>
        unfold Block.continuing at h
        split at h <;> cases h
        · next hs => exact ⟨_, rfl, .abandon hb hs⟩
        · next hs => exact ⟨_, rfl, .pushP hp hs⟩
    | cons =>
      simp only [inFlight, exec, execPop, Block.popStep, if_true] at h
      split at h
      · next hp => simp_all [Block.busy]
      · next hp =>
        unfold Block.continuing at h
        split at h
        · next hs => cases h; exact ⟨_, rfl, .abandon hb hs⟩
        · next hs =>
          unfold Block.popR at h
          split at h <;> cases h
          next d hd => exact ⟨_, rfl, .popR hp hs hd⟩
      · next hp =>
        unfold Block.continuing at h
        split at h <;> cases h
        · next hs => exact ⟨_, rfl, .abandon hb hs⟩
        · next hs => exact ⟨_, rfl, .popP hp hs⟩
  · next hb =>
    have hb : b.busy q = false := by simpa using hb
    split at h
    · next hr => cases h; exact ⟨_, rfl, .void hb hr⟩
    · next r hr =>
      obtain ⟨b', he, hm⟩ := State.accept_cases hb hr
      rw [he] at h
      cases h
      exact ⟨b', rfl, hm⟩

/-- What a step can do: an event of the environment, nothing, or a turn of the selected port. -/
inductive StepCase (b : Block p) : Block p → Prop where
  /-- No event, and no port is enabled. -/
  | idle (none : b.selected = none) (noReset : b.resetting = false) : StepCase b b
  /-- An agent presents a request. -/
  | present {q : Port} {r : Request p} {rest : List (Event p)} (head : b.events = .present q r :: rest)
      (free : b.request q = none) : StepCase b { b.setRequest q (some r) with events := rest }
  /-- The reset input (70_reset_and_hazards.md R170). -/
  | reset {rest : List (Event p)} (head : b.events = .reset :: rest) :
      StepCase b { b.reset with events := rest }
  /-- A turn of the selected port. Only the model's own list of events or counter has moved before it. -/
  | turn {q : Port} {rest : List (Event p)} {n : Nat} {b' : Block p} (chosen : b.selected = some q)
      (noReset : b.resetting = false) (micro : MicroStep (b.moved rest n) q b') :
      StepCase b b'

/-- Where a port is selected, by the schedule or by a free choice, the step is that port's turn. -/
theorem step_of_selected {b : Block p} {q : Port} (h : b.selected = some q) :
    step { par := p, blk := b } = State.takeTurn { par := p, blk := b.turnGiven } q := by
  unfold Block.selected at h
  unfold step State.advance Block.turnGiven
  split at h
  · next he => simp [he, State.freeTurn, h]
  · next q' r rest he =>
    split at h
    · next hr =>
      obtain ⟨r', hr⟩ := Option.isSome_iff_exists.1 hr
      simp [he, State.present, hr, State.freeTurn, h]
    · cases h
  · next q' rest he => cases h; simp [he]
  · cases h

theorem State.freeTurn_cases {b : Block p} {t : State} (hsel : b.selected = b.freePort)
    (hr : b.resetting = false) (h : State.freeTurn { par := p, blk := b } = .next t) :
    ∃ b', t = { par := p, blk := b' } ∧ StepCase b b' := by
  unfold State.freeTurn at h
  split at h
  · next hn => cases h; exact ⟨b, rfl, .idle (hsel.trans hn) hr⟩
  · next q hq =>
    obtain ⟨b', rfl, hm⟩ := State.takeTurn_cases h
    exact ⟨b', rfl, .turn (rest := b.events) (hsel.trans hq) hr hm⟩

/-- A step that answers a next state keeps the parameters and is one of the step cases. -/
theorem step_cases {b : Block p} {t : State} (h : step { par := p, blk := b } = .next t) :
    ∃ b', t = { par := p, blk := b' } ∧ StepCase b b' := by
  unfold step State.advance at h
  cases he : b.events with
  | nil =>
    simp only [he] at h
    exact State.freeTurn_cases (by simp [Block.selected, he]) (by simp [Block.resetting, he]) h
  | cons e rest =>
    cases e with
    | present q r =>
      simp only [he, State.present] at h
      split at h
      · next r' hr =>
        exact State.freeTurn_cases (by simp [Block.selected, he, hr]) (by simp [Block.resetting, he]) h
      · next hr => cases h; exact ⟨_, rfl, .present he hr⟩
    | run q =>
      simp only [he] at h
      obtain ⟨b', rfl, hm⟩ := State.takeTurn_cases h
      exact ⟨b', rfl, .turn (rest := rest) (n := b.draws) (by simp [Block.selected, he])
        (by simp [Block.resetting, he]) hm⟩
    | reset =>
      simp only [he] at h
      cases h
      exact ⟨_, rfl, .reset he⟩

end Sys2Proof.Machine
end

