-- ==== Sys2Proof/Tests/Slice0.lean ====
section
/-! SUPPORT. Tests of the model against the spec's own vectors (95_test_vectors.md) and words written out
from its encoding table (30_encoding.md R71), and for each statement with hypotheses a state and operands
that meet them. -/

namespace Sys2Proof.Tests

open Sys2Proof Sys2Proof.Machine

/-! ### Helpers -/

/-- `o` is the next state `t`. -/
def isNext (o : StateOutcome) (t : State) : Bool :=
  match o with
  | .next s => decide (s = t)
  | .fault _ => false
  | .refused _ => false

theorem next_of {o : StateOutcome} {t : State} (h : isNext o t = true) : o = .next t := by
  cases o <;> simp_all [isNext]

/-- `o` is a next state that `f` accepts. -/
def isNextWith (o : StateOutcome) (f : State → Bool) : Bool :=
  match o with
  | .next s => f s
  | .fault _ => false
  | .refused _ => false

/-- A state, from its block. -/
abbrev at' {p : Params} (b : Block p) : State := { par := p, blk := b }

/-- The default parameters. -/
abbrev P : Params := Params.defaults

/-- READY, C = 4, BASE = 0x100, empty, both ports idle. -/
def ready4 : Block P := { Block.initial P with state := .ready, mask := 3, base := 0x100 }

/-- The same with one element, 10, in slot 0x100. -/
def one4 : Block P := { ready4 with wrIdx := 1, storage := [(0x100, 10)] }

/-- A PUSH of 20 sampled, its slot not yet written. -/
def atW : Block P := { one4 with phaseProd := .puW, plW := 1, plNW := 2, plD := 20, turn := .prod }

/-- A PUSH of 20 that has written its slot and not yet published. -/
def atP : Block P := { atW with phaseProd := .puP, storage := [(0x100, 10), (0x101, 20)] }

/-- A POP sampled, its slot not yet read. -/
def atR : Block P := { one4 with phaseCons := .poR, clR := 0, clNR := 1, turn := .cons }

/-- A POP that has read its slot and not yet delivered. -/
def atD : Block P := { atR with phaseCons := .poP, clD := 10 }

/-- The block halted by a PUSH before any SETUP (95_test_vectors.md, program D). -/
def halted : Block P :=
  { Block.initial P with state := .halted, faultCause := .notConfigured, faultPort := some .prod, faultCmd := 1 }

/-- Port `q` has the request with word `w` and operand `o` presented, and the next turn. -/
def offer (b : Block P) (q : Port) (w : CmdWord) (o : Opnd P) : Block P :=
  { b.setRequest q (some { cmd := w, opnd := o }) with events := [.run q] }

/-- The turn is given to `q`. -/
def turnTo (b : Block P) (q : Port) : Block P := { b with events := [.run q] }

/-! ### Ill-formed terms are refused -/

theorem test_wf_cap : (Instr.setup (2 ^ 24)).wf = false := by decide
theorem test_wf_line_setup_port : Line.wf P { port := .prod, form := .setup 4 0 } = false := by decide
theorem test_wf_line_setup_cap : Line.wf P { port := .ctrl, form := .setup 16777216 0 } = false := by decide
theorem test_wf_line_setup_base : Line.wf P { port := .ctrl, form := .setup 4 4294967296 } = false := by decide
theorem test_wf_line_push_port : Line.wf P { port := .cons, form := .push 1 } = false := by decide
theorem test_wf_line_push_value : Line.wf P { port := .prod, form := .push 4294967296 } = false := by decide
theorem test_wf_line_pop : Line.wf P { port := .prod, form := .pop } = false := by decide
theorem test_wf_line_isEmpty : Line.wf P { port := .ctrl, form := .isEmpty } = false := by decide
theorem test_wf_line_word : Line.wf P { port := .ctrl, form := .word 4 4294967296 } = false := by decide
theorem test_wf_memory_order : Memory.wf (p := P) [(5, 0), (5, 1)] = false := by decide
theorem test_wf_memory_range : Memory.wf (p := P) [(4294967296, 0)] = false := by decide

/-! ### Decoding: words written bit by bit from 30_encoding.md R71, R72 and 95_test_vectors.md section 4 -/

theorem test_decode_setup : decode 0b00000000000000000000010000000000 = .ok (.setup 4) := by decide
theorem test_decode_setup_max : decode 0b11111111111111111111111100000000 = .ok (.setup 0xFFFFFF) := by decide
theorem test_decode_push : decode 0b00000000000000000000000000000001 = .ok .push := by decide
theorem test_decode_pop : decode 0b00000000000000000000000000000010 = .ok .pop := by decide
theorem test_decode_isEmpty : decode 0b00000000000000000000000000000011 = .ok .isEmpty := by decide
theorem test_decode_rsv : decode 0b00000000000000000000000010000000 = .error .reservedBits := by decide
theorem test_decode_capf : decode 0b10000000000000000000000000000010 = .error .reservedCapacity := by decide
theorem test_table_setup : decodeTableWord 32 0x00000400 = some (.setup 4) := by decide
theorem test_table_illegal : decodeTableWord 32 0x00000103 = none := by decide

/-! ### One step of each command -/

/-- S13: AW = 16, so the handle is OPND[15:0]. -/
theorem test_setup_handle :
    isNextWith (exec (.setup 4) (at' { Block.initial { idxW := 32, dataW := 32, aw := 16, capMaxLog2 := 16 } with
      opnd := 0xABCD1234 })) (fun s => s.blk.base.toNat == 0x1234 && s.blk.mask.toNat == 3 &&
        s.blk.responses == [{ port := .ctrl, rsp := .doneTrue }]) = true := by decide

/-- S7 and S3: a capacity above 2^CAP_MAX_LOG2; STATUS is that of S3. -/
theorem test_setup_too_large :
    isNextWith (exec (.setup 131072) (at' (Block.initial P)))
      (fun s => s.blk.status == 0xE6 && s.blk.faultCmd == 0x02000000) = true := by decide

/-- P7: DATA_W = 8, so the element is OPND[7:0]. -/
theorem test_push_element :
    isNextWith (exec .push (at' { Block.initial { idxW := 32, dataW := 8, aw := 32, capMaxLog2 := 16 } with
      state := .ready, mask := 3, turn := .prod, opnd := 0x1FF }))
      (fun s => s.blk.plD.toNat == 0xFF && s.blk.plNW.toNat == 1 && s.blk.phaseProd == .puW) = true := by decide

/-- P6: IDX_W = 4, C = 16, WR_IDX = 15: the successor wraps to 0, and the buffer is not full at RD_IDX = 3. -/
theorem test_push_wrap :
    isNextWith (exec .push (at' { Block.initial { idxW := 4, dataW := 32, aw := 32, capMaxLog2 := 4 } with
      state := .ready, mask := 0xF, wrIdx := 15, rdIdx := 3, turn := .prod, opnd := 7 }))
      (fun s => s.blk.plW.toNat == 15 && s.blk.plNW.toNat == 0 && s.blk.plD.toNat == 7) = true := by decide

/-- O3: RD_IDX = 3, s[0x103] = 40: POP.R reads that slot. -/
theorem test_pop_slot :
    isNextWith (exec .pop (at' { atR with wrIdx := 1, rdIdx := 3, clR := 3, clNR := 0, storage := [(0x103, 40)] }))
      (fun s => s.blk.clD.toNat == 40 && s.blk.phaseCons == .poP && !s.blk.popWritten) = true := by decide

/-- O7: POP.P abandoned by a fault on another port leaves RD_IDX and POP_DATA. -/
theorem test_pop_abandoned :
    isNextWith (exec .pop (at' { atD with popData := 77, popWritten := true, state := .halted }))
      (fun s => s.blk.rdIdx.toNat == 0 && s.blk.popData.toNat == 77 && s.blk.phaseCons == .idle &&
        s.blk.responses == [{ port := .cons, rsp := .fault }]) = true := by decide

/-- E1: IS_EMPTY is legal while STATE = UNCFG and responds 01. -/
theorem test_isEmpty_uncfg :
    isNextWith (step (at' (offer (Block.initial P) .prod 3 0)))
      (fun s => s.blk.status == 0x60 && s.blk.responses == [{ port := .prod, rsp := .doneTrue }]) = true := by decide

/-- E3: IS_EMPTY on CTRL is a WRONG_PORT fault (cause 5, port 1): 0x002 + 0x014 + 0x080. -/
theorem test_isEmpty_ctrl :
    isNextWith (step (at' (offer one4 .ctrl 3 0)))
      (fun s => s.blk.status == 0x96 && s.blk.responses == [{ port := .ctrl, rsp := .fault }]) = true := by decide

/-- S8: an illegal word on CTRL (cause 4): STATUS 0xF2. -/
theorem test_illegal_word :
    isNextWith (step (at' (offer (Block.initial P) .ctrl 0x404 0x100)))
      (fun s => s.blk.status == 0xF2 && s.blk.faultCmd == 0x404) = true := by decide

/-- P9: PUSH on CONS (cause 5): STATUS 0x1B6. -/
theorem test_wrong_port :
    isNextWith (step (at' (offer ready4 .cons 1 7))) (fun s => s.blk.status == 0x1B6) = true := by decide

/-- R171: STATUS after reset. -/
theorem test_status_reset : State.reset.blk.status = 0x60 := by decide

/-- `withFetchWord` places a SETUP so that the very next step runs it. -/
theorem test_fetch_setup :
    isNextWith (step (State.reset.withFetchWord 32 0x00000400))
      (fun s => s.blk.mask.toNat == 3 && s.blk.state == .ready) = true := by decide

/-- It places a PUSH so too: P8, NOT_CONFIGURED, STATUS 0x16A. -/
theorem test_fetch_push :
    isNextWith (step (State.reset.withFetchWord 32 0x00000001)) (fun s => s.blk.status == 0x16A) = true := by decide

/-! ### States that meet the hypotheses of the statements

For each statement with hypotheses, `witness_<Name>` gives concrete states and operands that meet all of
them together, one for each clause. -/

/-- The invariant of a concrete block, by evaluation. -/
theorem inv_of {b : Block P} (k : Nat)
    (h : decide (k ≤ P.capMaxLog2 ∧ b.capacity = 2 ^ k ∧ b.wrIdx.toNat ≤ b.mask.toNat ∧
      b.rdIdx.toNat ≤ b.mask.toNat ∧
      (b.phaseProd ≠ .idle → b.plW = b.wrIdx ∧ b.plNW = b.next b.wrIdx ∧ b.full = false) ∧
      (b.phaseCons ≠ .idle → b.clR = b.rdIdx ∧ b.clNR = b.next b.rdIdx ∧ b.empty = false) ∧
      (b.phaseProd = .puP → b.storage.read (b.slotAddr b.plW) = some b.plD) ∧
      (b.phaseCons = .poP → b.storage.read (b.slotAddr b.clR) = some b.clD) ∧
      b.queue.all Option.isSome = true ∧ b.storage.wf = true ∧
      (if b.state = .halted then b.faultCause ≠ .none ∧ b.faultPort ≠ none
        else b.faultCause = .none ∧ b.faultPort = none ∧ b.faultCmd = 0) ∧
      (b.state = .uncfg → b.mask = 0 ∧ b.base = 0 ∧ b.phaseProd = .idle ∧ b.phaseCons = .idle)) = true) :
    b.Inv := by
  obtain ⟨h1, h2, h3, h4, h5, h6, h7, h8, h9, h10, h11, h12⟩ := of_decide_eq_true h
  exact ⟨by decide, ⟨k, h1, h2⟩, h3, h4, h5, h6, h7, h8, by simpa [Option.isSome_iff_ne_none] using h9, h10, h11, h12⟩

theorem inv_ready4 : ready4.Inv := inv_of 2 (by decide)
theorem inv_one4 : one4.Inv := inv_of 2 (by decide)
theorem inv_atW : atW.Inv := inv_of 2 (by decide)
theorem inv_atP : atP.Inv := inv_of 2 (by decide)
theorem inv_atR : atR.Inv := inv_of 2 (by decide)
theorem inv_atD : atD.Inv := inv_of 2 (by decide)
theorem inv_halted : halted.Inv := inv_of 0 (by decide)

/-- A PUSH at PU_P and a POP at PO_P in flight together (95_test_vectors.md I3). -/
def both : Block P := { atP with phaseCons := .poP, clR := 0, clNR := 1, clD := 10 }
theorem inv_both : both.Inv := inv_of 2 (by decide)

theorem witness_DecodeOfEncode :
    (Instr.setup 0).wf = true ∧ (Instr.setup 16777215).wf = true ∧ Instr.push.wf = true ∧
      Instr.pop.wf = true ∧ Instr.isEmpty.wf = true := by decide

theorem witness_EncodeOfDecode : decode 0xFFFFFF00 = .ok (.setup 16777215) ∧ decode 0x00000003 = .ok .isEmpty :=
  by decide

theorem witness_LegalityOfCommandWords :
    decode 0x00000400 = .ok (.setup 4) ∧ (∀ i, decode 0x00000104 ≠ .ok i) ∧
    (∀ q : Port, (offer ready4 q 0x104 0).selected = some q ∧ (offer ready4 q 0x104 0).busy q = false ∧
      (offer ready4 q 0x104 0).request q = some { cmd := 0x104, opnd := 0 } ∧
      (offer ready4 q 0x104 0).state ≠ .halted) := by
  refine ⟨by decide, fun i h => ?_, fun q => ?_⟩
  · have : decode 0x00000104 = .error .reservedBits := by decide
    rw [this] at h
    cases h
  · cases q <;> decide

theorem witness_AssembledLines :
    Line.wf P { port := .ctrl, form := .setup 16777215 4294967295 } = true ∧
    Line.wf P { port := .prod, form := .push 4294967295 } = true ∧
    Line.wf P { port := .cons, form := .pop } = true ∧ Line.wf P { port := .prod, form := .isEmpty } = true ∧
    Line.wf P { port := .cons, form := .isEmpty } = true ∧
    Line.wf P { port := .ctrl, form := .word 0x404 0x100 } = true := by decide

/-- Port `q` has the request presented and no event is to come, so a free choice gives the turn. -/
def await (b : Block P) (q : Port) (w : CmdWord) (o : Opnd P) : Block P :=
  b.setRequest q (some { cmd := w, opnd := o })

/-- A turn by the schedule, one by a free choice, and one by a free choice while a request waits. -/
theorem witness_StepRunsDecodedCommand :
    decode 1 = .ok .push ∧
    ∀ b ∈ [offer ready4 .prod 1 10, await ready4 .prod 1 10,
        { await ready4 .prod 1 10 with events := [.present .prod { cmd := 1, opnd := 20 }] }],
      b.selected = some .prod ∧ b.busy .prod = false ∧ b.request .prod = some { cmd := 1, opnd := 10 } := by decide

theorem witness_StepContinuesInFlight :
    (∀ b ∈ [turnTo atW .prod, atW], b.selected = some .prod ∧ b.phaseProd ≠ .idle) ∧
    (∀ b ∈ [turnTo atD .cons, atD], b.selected = some .cons ∧ b.phaseCons ≠ .idle) := by decide

theorem witness_FreeTurnIsEnabled : atW.freePort = some .prod ∧ both.enabled .cons = true := by decide

theorem witness_ParametersNeverChange :
    step (at' (turnTo atW .prod)) = .next (at' { atP with events := [] }) ∧
    exec .push (at' atW) = .next (at' atP) := ⟨next_of (by decide), next_of (by decide)⟩

/-- Interleaving I1 of 95_test_vectors.md. -/
def full2 : Block P :=
  { Block.initial P with
    state := .ready, mask := 1, wrIdx := 1, storage := [(0, 0xA)],
    reqProd := some { cmd := 0x00000001, opnd := 0xB }, reqCons := some { cmd := 0x00000002, opnd := 0 } }

theorem witness_BothSchedulesAdmitted :
    full2.state = .ready ∧ full2.mask = 1 ∧ full2.base = 0 ∧ full2.wrIdx = 1 ∧ full2.rdIdx = 0 ∧
    full2.storage = [(0, 0xA)] ∧ full2.phaseProd = .idle ∧ full2.phaseCons = .idle ∧
    full2.reqProd = some { cmd := 0x00000001, opnd := 0xB } ∧
    full2.reqCons = some { cmd := 0x00000002, opnd := 0 } ∧ full2.Inv := by
  refine ⟨?_, ?_, ?_, ?_, ?_, ?_, ?_, ?_, ?_, ?_, inv_of 1 (by decide)⟩ <;> decide

/-- `b`, `q` and the request meet the hypotheses of AcceptanceChecksInOrder. -/
def Accepts (b : Block P) (q : Port) (w : CmdWord) : Prop :=
  (offer b q w 0).selected = some q ∧ (offer b q w 0).busy q = false ∧
    (offer b q w 0).request q = some { cmd := w, opnd := 0 }

/-- One state for each check, and one for each command where no check applies. -/
theorem witness_AcceptanceChecksInOrder :
    (Accepts halted .prod 4 ∧ halted.state = .halted) ∧
    (Accepts ready4 .ctrl 4 ∧ decode 4 = .error .reservedBits) ∧
    (Accepts ready4 .prod 0x400 ∧ decode 0x400 = .ok (.setup 4)) ∧
    (Accepts ready4 .cons 1 ∧ Accepts ready4 .prod 2 ∧ Accepts ready4 .ctrl 3) ∧
    (Accepts (Block.initial P) .prod 1 ∧ Accepts (Block.initial P) .cons 2) ∧
    (Accepts atW .ctrl 0x300 ∧ atW.phaseProd ≠ .idle) ∧
    (Accepts ready4 .ctrl 0x02000000 ∧ capLegal P 131072 = false) ∧
    (Accepts ready4 .ctrl 0x01000000 ∧ capLegal P 65536 = true) ∧
    (Accepts ready4 .prod 1 ∧ Accepts ready4 .cons 2 ∧ Accepts ready4 .cons 3) := by
  unfold Accepts
  decide

theorem witness_FaultEntryRecord :
    (step (at' (offer (Block.initial P) .prod 1 5)) =
        .next (at' { halted with responses := [{ port := .prod, rsp := .fault }], turn := .prod, opnd := 5 }) ∧
      (offer (Block.initial P) .prod 1 5).state ≠ .halted ∧ halted.state = .halted) ∧
    (step (at' (offer halted .cons 3 0)) =
        .next (at' { halted with responses := [{ port := .cons, rsp := .fault }], turn := .cons, opnd := 0 }) ∧
      (offer halted .cons 3 0).resetting = false) :=
  ⟨⟨next_of (by decide), by decide, by decide⟩, next_of (by decide), by decide⟩

theorem witness_HaltedRequestsRespondFault :
    (offer halted .ctrl 4 0).selected = some .ctrl ∧ (offer halted .ctrl 4 0).busy .ctrl = false ∧
    (offer halted .ctrl 4 0).request .ctrl = some { cmd := 4, opnd := 0 } ∧
    (offer halted .ctrl 4 0).state = .halted := by decide

/-- The block halted while a PUSH and a POP are in flight. -/
def haltedBoth (q : Port) : Block P :=
  { both with state := .halted, faultCause := .setupBusy, faultPort := some .ctrl, faultCmd := 0x400, turn := q }

theorem witness_InFlightAbandonedWhenHalted :
    (haltedBoth .prod).state = .halted ∧
    ((haltedBoth .prod).turn = .prod ∧ (haltedBoth .prod).phaseProd ≠ .idle) ∧
    ((haltedBoth .cons).turn = .cons ∧ (haltedBoth .cons).phaseCons ≠ .idle) := by decide

theorem witness_OnlyResetLeavesHalted :
    (step (at' { halted with events := [.reset] }) = .next (at' (Block.initial P)) ∧
      ({ halted with events := [.reset] } : Block P).resetting = true) ∧
    (step (at' (turnTo (haltedBoth .prod) .prod)) =
        .next (at' { haltedBoth .prod with phaseProd := .idle, responses := [{ port := .prod, rsp := .fault }] }) ∧
      (turnTo (haltedBoth .prod) .prod).resetting = false ∧ (turnTo (haltedBoth .prod) .prod).state = .halted) :=
  ⟨⟨next_of (by decide), by decide⟩, next_of (by decide), by decide, by decide⟩

/-- The block that a successful `SETUP 4, 0x100` leaves. -/
def rebound (b : Block P) : Block P :=
  { b with
    state := .ready, mask := 3, base := 0x100, wrIdx := 0, rdIdx := 0,
    turn := .ctrl, opnd := 0x100, responses := b.responses ++ [{ port := .ctrl, rsp := .doneTrue }] }

/-- A SETUP from UNCFG, one from READY with a live element, a PUSH.W; a fault and a reset stand above. -/
theorem witness_StateTransitions :
    step (at' (offer (Block.initial P) .ctrl 0x400 0x100)) = .next (at' (rebound (Block.initial P))) ∧
    step (at' (offer one4 .ctrl 0x400 0x100)) = .next (at' (rebound one4)) ∧
    step (at' (turnTo atW .prod)) = .next (at' { atP with events := [] }) :=
  ⟨next_of (by decide), next_of (by decide), next_of (by decide)⟩

theorem witness_PortPermissions :
    ∀ q : Port, ({ one4 with turn := q } : Block P).state ≠ .halted ∧
      ({ one4 with turn := q } : Block P).busy ({ one4 with turn := q } : Block P).turn = false := by
  intro q
  cases q <;> decide

theorem witness_PushAndPopNeedSetup :
    ({ Block.initial P with turn := .prod } : Block P).state = .uncfg ∧
    ({ Block.initial P with turn := .prod } : Block P).phaseProd = .idle ∧
    ({ Block.initial P with turn := .cons } : Block P).phaseCons = .idle := by decide

/-- The hypotheses, and a capacity for each clause at the edges of its range. -/
theorem witness_SetupBindsOrFaults :
    (one4.state ≠ .halted ∧ one4.turn = .ctrl ∧ one4.phaseProd = .idle ∧ one4.phaseCons = .idle) ∧
    (∀ cap ∈ [1, 2, 65536], cap ≠ 0 ∧ cap &&& (cap - 1) = 0 ∧ cap ≤ 2 ^ P.capMaxLog2) ∧
    (∀ cap ∈ [0, 3, 65537, 131072, 16777215], ¬ (cap ≠ 0 ∧ cap &&& (cap - 1) = 0 ∧ cap ≤ 2 ^ P.capMaxLog2)) ∧
    P.Legal := by decide

theorem witness_SetupBusyFaults :
    (({ atW with turn := .ctrl } : Block P).state ≠ .halted ∧ atW.phaseProd ≠ .idle) ∧
    (({ atD with turn := .ctrl } : Block P).state ≠ .halted ∧ atD.phaseCons ≠ .idle) := by decide

theorem witness_SetupDiscardsElements :
    step (at' (offer one4 .ctrl 0x400 0x100)) = .next (at' (rebound one4)) ∧
    Rebinds (offer one4 .ctrl 0x400 0x100) (rebound one4) := ⟨next_of (by decide), rfl⟩

/-- P1 (not full), P2 (full). -/
theorem witness_PushSamples :
    (({ one4 with turn := .prod } : Block P).phaseProd = .idle ∧ one4.state = .ready ∧
      (one4.wrIdx + 1) &&& one4.mask ≠ one4.rdIdx) ∧
    (({ ready4 with turn := .prod, wrIdx := 3 } : Block P).phaseProd = .idle ∧
      ((3 : Idx P) + 1) &&& ready4.mask = ready4.rdIdx) := by decide

theorem witness_PushWritesSlot : atW.turn = .prod ∧ atW.phaseProd = .puW ∧ atW.state ≠ .halted := by decide

theorem witness_PushPublishes :
    atP.turn = .prod ∧ atP.phaseProd = .puP ∧ atP.state ≠ .halted ∧ atP.Inv :=
  ⟨by decide, by decide, by decide, inv_atP⟩

/-- The storing form, and a form that faults. -/
theorem witness_PushFrame :
    (exec .push (at' atW) = .next (at' atP) ∧ atW.turn = .prod) ∧
    (exec .push (at' { ready4 with turn := .cons }) = .next (at' { ready4 with
        turn := .cons, state := .halted, faultCause := .wrongPort, faultPort := some .cons, faultCmd := 1,
        responses := [{ port := .cons, rsp := .fault }] }) ∧
      ({ ready4 with turn := .cons } : Block P).busy .cons = false) :=
  ⟨⟨next_of (by decide), by decide⟩, next_of (by decide), by decide⟩

/-- C = 2 and one element, and C = 1 and none. -/
theorem witness_CapacityBoundary :
    (∃ b : Block P, b.Inv ∧ b.state = .ready ∧ b.phaseProd = .idle ∧ b.reqProd = none ∧ b.occupancy = 0 ∧
      [(1 : Opnd P)].length + 1 = b.capacity ∧ b.events = ([1] ++ [2]).flatMap pushScript ++ []) ∧
    (∃ b : Block P, b.Inv ∧ b.state = .ready ∧ b.phaseProd = .idle ∧ b.reqProd = none ∧ b.occupancy = 0 ∧
      ([] : List (Opnd P)).length + 1 = b.capacity ∧ b.events = ([] ++ [5]).flatMap pushScript ++ []) :=
  ⟨⟨{ ready4 with mask := 1, events := pushScript 1 ++ pushScript 2 }, inv_of 1 (by decide), by decide, by decide,
      by decide, by decide, by decide, by decide⟩,
    ⟨{ ready4 with mask := 0, events := pushScript 5 }, inv_of 0 (by decide), by decide, by decide,
      by decide, by decide, by decide, by decide⟩⟩

/-- O2 (not empty), O1 (empty). -/
theorem witness_PopSamples :
    (({ one4 with turn := .cons } : Block P).phaseCons = .idle ∧ one4.state = .ready ∧ one4.rdIdx ≠ one4.wrIdx) ∧
    (({ ready4 with turn := .cons } : Block P).phaseCons = .idle ∧ ready4.rdIdx = ready4.wrIdx) := by decide

theorem witness_PopReadsSlot :
    atR.turn = .cons ∧ atR.phaseCons = .poR ∧ atR.state ≠ .halted ∧
    atR.storage.read (atR.base + (atR.clR &&& atR.mask).setWidth P.aw) = some 10 := by decide

/-- A state that no run reaches: a POP in flight over a slot never written. -/
theorem witness_FaultOnlyOnUnwrittenSlot :
    ({ atR with storage := [] } : Block P).turn = .cons ∧ ({ atR with storage := [] } : Block P).phaseCons = .poR ∧
    ({ atR with storage := [] } : Block P).state ≠ .halted ∧
    ({ atR with storage := [] } : Block P).storage.read
      (({ atR with storage := [] } : Block P).slotAddr ({ atR with storage := [] } : Block P).clR) = none := by decide

theorem witness_PopPublishes :
    atD.turn = .cons ∧ atD.phaseCons = .poP ∧ atD.state ≠ .halted ∧ atD.Inv ∧ 2 ≤ atD.capacity :=
  ⟨by decide, by decide, by decide, inv_atD, by decide⟩

/-- Each command without a fault, a SETUP that takes a fault entry, and an IS_EMPTY in HALTED. -/
theorem witness_NonStoringFrame :
    (exec (.setup 4) (at' { one4 with opnd := 0x100 }) = .next (at' (rebound one4)) ∧ one4.busy one4.turn = false ∧
      (rebound one4).state ≠ .halted) ∧
    (exec (.setup 3) (at' one4) = .next (at' { one4 with
        state := .halted, faultCause := .cfgCapacity, faultPort := some .ctrl, faultCmd := 0x300,
        responses := [{ port := .ctrl, rsp := .fault }] })) ∧
    (exec .pop (at' atR) = .next (at' atD) ∧ atR.turn = .cons ∧ atR.phaseCons ≠ .poP) ∧
    (exec .isEmpty (at' { one4 with turn := .cons }) = .next (at' { one4 with
        turn := .cons, responses := [{ port := .cons, rsp := .doneFalse }] }) ∧
      ({ one4 with turn := .cons } : Block P).busy .cons = false) ∧
    (exec .isEmpty (at' halted) = .next (at' { halted with responses := [{ port := .ctrl, rsp := .fault }] }) ∧
      halted.busy halted.turn = false ∧ halted.state = .halted) :=
  ⟨⟨next_of (by decide), by decide, by decide⟩, next_of (by decide), ⟨next_of (by decide), by decide, by decide⟩,
    ⟨next_of (by decide), by decide⟩, next_of (by decide), by decide, by decide⟩

/-- On PROD and empty; on CONS and not empty. -/
theorem witness_IsEmptyResponds :
    (({ Block.initial P with turn := .prod } : Block P).state ≠ .halted ∧
      ({ Block.initial P with turn := .prod } : Block P).busy .prod = false ∧
      (Block.initial P).rdIdx = (Block.initial P).wrIdx) ∧
    (({ one4 with turn := .cons } : Block P).state ≠ .halted ∧
      ({ one4 with turn := .cons } : Block P).busy .cons = false ∧ one4.rdIdx ≠ one4.wrIdx) := by decide

/-- A PUSH.W on a buffer that is not empty, and an IS_EMPTY on an empty one. -/
theorem witness_EmptinessIsOwned :
    (step (at' (turnTo atW .prod)) = .next (at' { atP with events := [] }) ∧
      (turnTo atW .prod).resetting = false ∧ ¬ Rebinds (turnTo atW .prod) { atP with events := [] } ∧
      (turnTo atW .prod).empty = false ∧ (turnTo atW .prod).delivered = [] ∧ (turnTo atW .prod).Inv) ∧
    (step (at' (offer ready4 .cons 3 0)) = .next (at' { ready4 with
        turn := .cons, responses := [{ port := .cons, rsp := .doneTrue }] }) ∧
      (offer ready4 .cons 3 0).resetting = false ∧
      ¬ Rebinds (offer ready4 .cons 3 0) { ready4 with
        turn := .cons, responses := [{ port := .cons, rsp := .doneTrue }] } ∧
      (offer ready4 .cons 3 0).empty = true ∧ (offer ready4 .cons 3 0).published = [] ∧
      (offer ready4 .cons 3 0).Inv) := by
  unfold Rebinds
  exact ⟨⟨next_of (by decide), by decide, by decide, by decide, by decide, inv_of 2 (by decide)⟩,
    next_of (by decide), by decide, by decide, by decide, by decide, inv_of 2 (by decide)⟩

/-- C = 16 = 2^IDX_W and i = MASK, the edge of the increment (P6); and the same in 32 bits. -/
theorem witness_SuccessorModCapacity :
    (∃ b : Block { idxW := 4, dataW := 32, aw := 32, capMaxLog2 := 4 },
      b.capacity = 2 ^ 4 ∧ (0xF : BitVec 4).toNat ≤ b.mask.toNat) ∧
    (ready4.capacity = 2 ^ 2 ∧ (3 : Idx P).toNat ≤ ready4.mask.toNat) :=
  ⟨⟨{ Block.initial _ with mask := 0xF }, by decide, by decide⟩, by decide⟩

/-- A region that wraps from 2^AW - 1 to 0. -/
theorem witness_SlotAddressesDistinct :
    ({ ready4 with base := 0xFFFFFFFF } : Block P).Inv ∧ (0 : Idx P).toNat ≤ ready4.mask.toNat ∧
    (3 : Idx P).toNat ≤ ready4.mask.toNat := ⟨inv_of 2 (by decide), by decide, by decide⟩

theorem witness_ComparatorsMeasureOccupancy :
    (({ ready4 with mask := 0 } : Block P).Inv ∧ ({ ready4 with mask := 0 } : Block P).capacity = 1) ∧
    (one4.Inv ∧ 2 ≤ one4.capacity) := ⟨⟨inv_of 0 (by decide), by decide⟩, inv_one4, by decide⟩

theorem witness_ReadAfterWrite : (0xFFFFFFFF : Addr P) ≠ 0 := by decide

theorem witness_OnlyPushWritesStorage :
    step (at' (turnTo atW .prod)) = .next (at' { atP with events := [] }) ∧
    ({ atP with events := [] } : Block P).storage.read 0x101 ≠ (turnTo atW .prod).storage.read 0x101 :=
  ⟨next_of (by decide), by decide⟩

/-- The block that a PUSH.P, and that a POP.P, leaves. -/
def pushed : Block P :=
  { atP with wrIdx := 2, phaseProd := .idle, responses := [{ port := .prod, rsp := .doneTrue }] }
def popped : Block P :=
  { atD with
    rdIdx := 1, popData := 10, popWritten := true, phaseCons := .idle,
    responses := [{ port := .cons, rsp := .doneTrue }] }

theorem step_pushed : step (at' (turnTo atP .prod)) = .next (at' pushed) := next_of (by decide)
theorem step_popped : step (at' (turnTo atD .cons)) = .next (at' popped) := next_of (by decide)

/-- WR_IDX by PUSH.P and by SETUP; RD_IDX by POP.P and by SETUP. -/
theorem witness_SingleWriterPerIndex :
    (step (at' (turnTo atP .prod)) = .next (at' pushed) ∧ (turnTo atP .prod).resetting = false ∧
      pushed.wrIdx ≠ atP.wrIdx) ∧
    (step (at' (turnTo atD .cons)) = .next (at' popped) ∧ (turnTo atD .cons).resetting = false ∧
      popped.rdIdx ≠ atD.rdIdx) ∧
    (step (at' (offer { one4 with wrIdx := 2, rdIdx := 1 } .ctrl 0x400 0x100)) =
        .next (at' (rebound { one4 with wrIdx := 2, rdIdx := 1 })) ∧
      (offer { one4 with wrIdx := 2, rdIdx := 1 } .ctrl 0x400 0x100).resetting = false) :=
  ⟨⟨step_pushed, by decide, by decide⟩, ⟨step_popped, by decide, by decide⟩, next_of (by decide), by decide⟩

theorem witness_ObservationInterface : popped.popWritten = true ∧ (Block.initial P).popWritten = false := by decide

theorem witness_ResetInput : ({ both with events := [.reset] } : Block P).events = .reset :: [] := by decide

theorem witness_InvariantAtReset :
    P.Legal ∧ Params.Legal { idxW := 1, dataW := 1, aw := 1, capMaxLog2 := 0 } := by decide

theorem witness_StepKeepsInvariant :
    (turnTo atP .prod).Inv ∧ step (at' (turnTo atP .prod)) = .next (at' pushed) :=
  ⟨inv_of 2 (by decide), step_pushed⟩

theorem witness_StepAlwaysAnswers : (turnTo atR .cons).Inv := inv_of 2 (by decide)

theorem witness_NoConflictingSlotAccesses :
    both.Inv ∧ both.phaseProd ≠ .idle ∧ both.phaseCons ≠ .idle ∧ both.Live 0 :=
  ⟨inv_both, by decide, by decide, 0, by decide, by decide⟩

/-- A PUSH.P, a POP.P (which delivers), and a SETUP of a buffer that is not empty. -/
theorem witness_QueueRefinement :
    ((turnTo atP .prod).Inv ∧ step (at' (turnTo atP .prod)) = .next (at' pushed) ∧
      (turnTo atP .prod).resetting = false ∧ ¬ Rebinds (turnTo atP .prod) pushed ∧
      (turnTo atP .prod).delivered = []) ∧
    ((turnTo atD .cons).Inv ∧ step (at' (turnTo atD .cons)) = .next (at' popped) ∧
      (turnTo atD .cons).resetting = false ∧ (turnTo atD .cons).delivered = [10]) ∧
    ((offer one4 .ctrl 0x400 0x100).Inv ∧
      step (at' (offer one4 .ctrl 0x400 0x100)) = .next (at' (rebound one4)) ∧
      (offer one4 .ctrl 0x400 0x100).resetting = false ∧ Rebinds (offer one4 .ctrl 0x400 0x100) (rebound one4)) := by
  unfold Rebinds
  exact ⟨⟨inv_of 2 (by decide), step_pushed, by decide, by decide, by decide⟩,
    ⟨inv_of 2 (by decide), step_popped, by decide, by decide⟩,
    inv_of 2 (by decide), next_of (by decide), by decide, rfl⟩

/-- An empty buffer with a PUSH about to publish, and the run of that one step. -/
def first : Block P :=
  { ready4 with
    phaseProd := .puP, plW := 0, plNW := 1, plD := 10, storage := [(0x100, 10)], turn := .prod,
    events := [.run .prod] }

theorem witness_FifoOrder :
    first.Inv ∧ first.queue = [] ∧ ∃ b', History first [10] [] b' := by
  refine ⟨inv_of 2 (by decide), by decide, { first with
    wrIdx := 1, phaseProd := .idle, responses := [{ port := .prod, rsp := .doneTrue }], events := [] }, ?_⟩
  have hp : first.published = [10] := by decide
  have hd : first.delivered = [] := by decide
  have h := History.step (b := first) .refl (by decide) (next_of (by decide) :
    step (at' first) = .next (at' { first with
      wrIdx := 1, phaseProd := .idle, responses := [{ port := .prod, rsp := .doneTrue }], events := [] }))
    (by unfold Rebinds; decide)
  simpa [hp, hd] using h

theorem witness_OneResponsePerRequest :
    step (at' (turnTo atP .prod)) = .next (at' pushed) ∧ (turnTo atP .prod).resetting = false :=
  ⟨step_pushed, by decide⟩

theorem witness_CommandsTakeThreeSteps :
    (step (at' (turnTo atP .prod)) = .next (at' pushed) ∧ (turnTo atP .prod).resetting = false ∧
      (turnTo atP .prod).busy .prod = true ∧ (turnTo atP .prod).selected = some .prod) ∧
    (turnTo atP .prod).selected ≠ some .cons := ⟨⟨step_pushed, by decide, by decide, by decide⟩, by decide⟩

/-- A PUSH publishes, and then nothing happens any more. -/
def fairRun : Nat → Block P
  | 0 => turnTo atP .prod
  | _ + 1 => pushed

theorem witness_FairRunsCompleteCommands :
    (∀ n, step (at' (fairRun n)) = .next (at' (fairRun (n + 1)))) ∧ (∀ n, (fairRun n).resetting = false) ∧
    WeaklyFair fairRun ∧ (fairRun 0).busy .prod = true := by
  refine ⟨fun n => ?_, fun n => ?_, fun q n => ⟨n + 1, by omega, .inl ?_⟩, by decide⟩
  · cases n with
    | zero => exact step_pushed
    | succ n => exact (next_of (by decide) : step (at' pushed) = .next (at' pushed))
  · cases n with
    | zero => show (turnTo atP .prod).resetting = false; decide
    | succ n => show pushed.resetting = false; decide
  · show pushed.enabled q = false
    cases q <;> decide

/-- The consumer's latches and CL_D differ, which the PUSH in flight never reads, and POP_DATA before any POP;
CL_D alone differs, which POP.R overwrites. -/
theorem witness_LatchesUnobservable :
    SameButUnspecified atW { atW with clR := 3, clD := 7, popData := 9 } ∧
    SameButUnspecified atR { atR with plW := 3, clD := 7 } := by
  unfold SameButUnspecified
  exact ⟨⟨rfl, by decide, by decide, by decide, by decide⟩, rfl, by decide, by decide, by decide, by decide⟩

/-- A request presented on a free port, no event and nothing enabled, and a void turn. -/
theorem witness_StepsWithoutCommand :
    (({ atW with events := [.present .prod { cmd := 1, opnd := 5 }] } : Block P).events =
        .present .prod { cmd := 1, opnd := 5 } :: [] ∧ atW.request .prod = none) ∧
    (ready4.events = [] ∧ ∀ q ∈ [Port.ctrl, Port.prod, Port.cons], ready4.enabled q = false) ∧
    ((turnTo ready4 .cons).selected = some .cons ∧ (turnTo ready4 .cons).busy .cons = false ∧
      (turnTo ready4 .cons).request .cons = none) := by decide

end Sys2Proof.Tests
end

section
/-! The parameters are arguments of the model (00_scope.md R5): a step and each command's `exec` answer a
state with the parameters they were given. -/

namespace Sys2Proof.Machine

/-- A micro-step of the block, read as a step of the machine, answers a state of the same parameters. -/
theorem BlockOutcome.par_of_toState_next {p : Params} {o : BlockOutcome p} {t : State}
    (h : BlockOutcome.toState o = .next t) : t.par = p := by
  cases o with
  | next b =>
    rw [BlockOutcome.toState_next] at h
    cases h
    rfl
  | fault f => cases h
  | refused r => cases h

/-- Every step keeps the parameters: that is part of what `step_cases` says. -/
theorem step_par {s t : State} (h : step s = .next t) : t.par = s.par := by
  obtain ⟨b', rfl, -⟩ := step_cases (b := s.blk) h
  rfl

/-- Every command keeps the parameters: SETUP and IS_EMPTY answer them as they are, PUSH and POP answer a
micro-step of the block that has them. -/
theorem exec_par {i : Instr} {s t : State} (h : exec i s = .next t) : t.par = s.par := by
  cases i with
  | setup cap => cases h; rfl
  | push => exact BlockOutcome.par_of_toState_next (o := s.blk.pushStep) h
  | pop => exact BlockOutcome.par_of_toState_next (o := s.blk.popStep) h
  | isEmpty => cases h; rfl

/-- Settles O9: `step_par` for the steps and `exec_par` for the commands. -/
theorem parametersNeverChange : Obligations.ParametersNeverChange :=
  ⟨fun _ _ => step_par, fun _ _ _ => exec_par⟩

end Sys2Proof.Machine
end

section
/-! The storage primitives of 20_memory.md R52: what a slot holds after a write to it and to another slot. -/

namespace Sys2Proof.Machine

variable {p : Params}

/-- A slot just written holds the element. -/
@[simp] theorem Memory.get_put_same (n : Nat) (d : Elem p) (m : Memory p) :
    Memory.get n (Memory.put n d m) = some d := by
  induction m with
  | nil => simp [Memory.put, Memory.get]
  | cons e m ih =>
    unfold Memory.put
    split
    · simp [Memory.get]
    · split
      · simp [Memory.get]
      · next hlt hne => simpa [Memory.get, Ne.symm hne] using ih

/-- Any other slot holds what it held. -/
theorem Memory.get_put_ne {n n' : Nat} (h : n' ≠ n) (d : Elem p) (m : Memory p) :
    Memory.get n' (Memory.put n d m) = Memory.get n' m := by
  induction m with
  | nil => simp [Memory.put, Memory.get, h.symm]
  | cons e m ih =>
    unfold Memory.put
    split
    · simp [Memory.get, h.symm]
    · split
      · next hlt heq => simp [Memory.get, h.symm, ← heq]
      · simp [Memory.get, ih]

@[simp] theorem Memory.read_write_same (m : Memory p) (a : Addr p) (d : Elem p) :
    (m.write a d).read a = some d := Memory.get_put_same _ d m

theorem Memory.read_write_ne {a a' : Addr p} (h : a' ≠ a) (m : Memory p) (d : Elem p) :
    (m.write a d).read a' = m.read a' :=
  Memory.get_put_ne (fun hn => h (BitVec.eq_of_toNat_eq hn)) d m

end Sys2Proof.Machine
end

section
/-! The index logic (10_state.md R25, R27, R28) and the slot addresses (20_memory.md R51) of a block whose
capacity is a power of two: arithmetic modulo C. -/

namespace Sys2Proof.Machine

variable {p : Params} {b : Block p}

theorem Block.mask_toNat (b : Block p) : b.mask.toNat = b.capacity - 1 := rfl

theorem Block.capacity_pos (b : Block p) : 0 < b.capacity := Nat.succ_pos _

theorem Block.le_mask_iff_lt_capacity (b : Block p) {n : Nat} : n ≤ b.mask.toNat ↔ n < b.capacity :=
  Nat.lt_succ_iff.symm

/-- C is at most 2^IDX_W, whatever MASK holds. -/
theorem Block.capacity_le (b : Block p) : b.capacity ≤ 2 ^ p.idxW := b.mask.isLt

theorem Block.next_toNat (b : Block p) (i : Idx p) :
    (b.next i).toNat = ((i.toNat + 1) % 2 ^ p.idxW) &&& b.mask.toNat := by
  simp [Block.next]

/-- With C a power of two the masked increment is the increment modulo C (10_state.md R25). -/
theorem Block.next_toNat_mod {k : Nat} (hk : b.capacity = 2 ^ k) (i : Idx p) :
    (b.next i).toNat = (i.toNat + 1) % b.capacity := by
  have hdvd : 2 ^ k ∣ 2 ^ p.idxW := by
    refine Nat.pow_dvd_pow 2 ((Nat.pow_le_pow_iff_right (a := 2) (by decide)).1 ?_)
    exact hk ▸ b.capacity_le
  rw [b.next_toNat, b.mask_toNat, hk, Nat.and_two_pow_sub_one_eq_mod, Nat.mod_mod_of_dvd _ hdvd]

/-- An index in range is its own slot number. -/
theorem Block.and_mask_of_le {k : Nat} (hk : b.capacity = 2 ^ k) {i : Idx p}
    (hi : i.toNat ≤ b.mask.toNat) : i &&& b.mask = i := by
  apply BitVec.eq_of_toNat_eq
  rw [BitVec.toNat_and, b.mask_toNat, hk, Nat.and_two_pow_sub_one_eq_mod, ← hk]
  exact Nat.mod_eq_of_lt (b.le_mask_iff_lt_capacity.1 hi)

/-- The slots of distinct indices in range are distinct (20_memory.md R54). -/
theorem Block.slotAddr_injOn {k : Nat} (hk : b.capacity = 2 ^ k) (haw : k ≤ p.aw) {i j : Idx p}
    (hi : i.toNat ≤ b.mask.toNat) (hj : j.toNat ≤ b.mask.toNat)
    (h : b.slotAddr i = b.slotAddr j) : i = j := by
  have hfits : ∀ {x : Idx p}, x.toNat ≤ b.mask.toNat → x.toNat < 2 ^ p.aw := fun hx =>
    (b.le_mask_iff_lt_capacity.1 hx).trans_le (hk ▸ Nat.pow_le_pow_right (by decide) haw)
  rw [Block.slotAddr, Block.slotAddr, Block.and_mask_of_le hk hi, Block.and_mask_of_le hk hj,
    BitVec.add_right_inj] at h
  have hn := congrArg BitVec.toNat h
  rw [BitVec.toNat_setWidth, BitVec.toNat_setWidth, Nat.mod_eq_of_lt (hfits hi),
    Nat.mod_eq_of_lt (hfits hj)] at hn
  exact BitVec.eq_of_toNat_eq hn

/-- The index of the k-th oldest element as a number: reduction to IDX_W bits loses nothing. -/
theorem Block.liveIdx_toNat (b : Block p) (k : Nat) :
    (b.liveIdx k).toNat = (b.rdIdx.toNat + k) % b.capacity := by
  rw [Block.liveIdx, BitVec.toNat_ofNat]
  exact Nat.mod_eq_of_lt ((Nat.mod_lt _ b.capacity_pos).trans_le b.capacity_le)

theorem Block.liveIdx_le_mask (b : Block p) (k : Nat) : (b.liveIdx k).toNat ≤ b.mask.toNat := by
  rw [b.liveIdx_toNat, b.le_mask_iff_lt_capacity]
  exact Nat.mod_lt _ b.capacity_pos

theorem Block.occupancy_lt (b : Block p) : b.occupancy < b.capacity := Nat.mod_lt _ b.capacity_pos

/-- The circular distance from `r` up to `w`, without a modulus. -/
theorem circularDist_eq {w r C : Nat} (hw : w < C) (hr : r < C) :
    (w + C - r) % C = if r ≤ w then w - r else w + C - r := by
  split
  · rw [show w + C - r = (w - r) + C by omega, Nat.add_mod_right, Nat.mod_eq_of_lt (by omega)]
  · exact Nat.mod_eq_of_lt (by omega)

/-- A sum of less than `2 * C` modulo `C`, without a modulus. -/
theorem mod_of_lt_two_mul {x C : Nat} (hx : x < 2 * C) : x % C = if x < C then x else x - C := by
  split
  · exact Nat.mod_eq_of_lt ‹_›
  · rw [Nat.mod_eq_sub_mod (by omega), Nat.mod_eq_of_lt (by omega)]

/-- Moving `w` on by one lengthens the distance by one, unless it catches up with `r`. -/
theorem circularDist_succ_left {w r C : Nat} (hw : w < C) (hr : r < C) (hne : (w + 1) % C ≠ r) :
    ((w + 1) % C + C - r) % C = (w + C - r) % C + 1 := by
  rw [circularDist_eq (Nat.mod_lt _ (by omega)) hr, circularDist_eq hw hr]
  rw [mod_of_lt_two_mul (by omega)] at hne ⊢
  split_ifs at hne ⊢ <;> omega

/-- Moving `r` on by one shortens the distance by one, unless it was 0. -/
theorem circularDist_succ_right {w r C : Nat} (hw : w < C) (hr : r < C) (hne : r ≠ w) :
    (w + C - r) % C = (w + C - (r + 1) % C) % C + 1 := by
  rw [circularDist_eq hw (Nat.mod_lt _ (by omega)), circularDist_eq hw hr, mod_of_lt_two_mul (by omega)]
  split_ifs <;> omega

theorem Block.occupancy_eq (hw : b.wrIdx.toNat ≤ b.mask.toNat) (hr : b.rdIdx.toNat ≤ b.mask.toNat) :
    b.occupancy = if b.rdIdx.toNat ≤ b.wrIdx.toNat then b.wrIdx.toNat - b.rdIdx.toNat
      else b.wrIdx.toNat + b.capacity - b.rdIdx.toNat :=
  circularDist_eq (b.le_mask_iff_lt_capacity.1 hw) (b.le_mask_iff_lt_capacity.1 hr)

theorem Block.empty_iff (b : Block p) : b.empty = true ↔ b.rdIdx.toNat = b.wrIdx.toNat := by
  rw [Block.empty, beq_iff_eq, BitVec.toNat_inj]

theorem Block.full_iff (b : Block p) : b.full = true ↔ (b.next b.wrIdx).toNat = b.rdIdx.toNat := by
  rw [Block.full, beq_iff_eq, BitVec.toNat_inj]

theorem Block.empty_eq_false (b : Block p) : b.empty = false ↔ b.rdIdx ≠ b.wrIdx := by
  simp [Block.empty]

theorem Block.full_eq_false (b : Block p) : b.full = false ↔ b.next b.wrIdx ≠ b.rdIdx := by
  simp [Block.full]

/-! ### Under the invariant -/

theorem Block.Inv.wr_lt (hb : b.Inv) : b.wrIdx.toNat < b.capacity := b.le_mask_iff_lt_capacity.1 hb.wrRange

theorem Block.Inv.rd_lt (hb : b.Inv) : b.rdIdx.toNat < b.capacity := b.le_mask_iff_lt_capacity.1 hb.rdRange

theorem Block.Inv.next_toNat (hb : b.Inv) (i : Idx p) : (b.next i).toNat = (i.toNat + 1) % b.capacity := by
  obtain ⟨k, -, hk⟩ := hb.capacity
  exact Block.next_toNat_mod hk i

theorem Block.Inv.next_le_mask (hb : b.Inv) (i : Idx p) : (b.next i).toNat ≤ b.mask.toNat := by
  rw [hb.next_toNat, b.le_mask_iff_lt_capacity]
  exact Nat.mod_lt _ b.capacity_pos

theorem Block.Inv.slotAddr_inj (hb : b.Inv) {i j : Idx p} (hi : i.toNat ≤ b.mask.toNat)
    (hj : j.toNat ≤ b.mask.toNat) (h : b.slotAddr i = b.slotAddr j) : i = j := by
  obtain ⟨k, hmax, hk⟩ := hb.capacity
  obtain ⟨-, -, -, hcap⟩ := hb.legal
  exact Block.slotAddr_injOn hk (by omega) hi hj h

/-- Different indices in range have different successors. -/
theorem Block.Inv.next_inj (hb : b.Inv) {i j : Idx p} (hi : i.toNat ≤ b.mask.toNat)
    (hj : j.toNat ≤ b.mask.toNat) (h : b.next i = b.next j) : i = j := by
  rw [b.le_mask_iff_lt_capacity] at hi hj
  have hn := congrArg BitVec.toNat h
  rw [hb.next_toNat, hb.next_toNat, mod_of_lt_two_mul (by omega), mod_of_lt_two_mul (by omega)] at hn
  refine BitVec.eq_of_toNat_eq ?_
  split_ifs at hn <;> omega

theorem Block.Inv.empty_iff_occupancy (hb : b.Inv) : b.empty = true ↔ b.occupancy = 0 := by
  have hw := hb.wr_lt
  have hr := hb.rd_lt
  rw [b.empty_iff, Block.occupancy_eq hb.wrRange hb.rdRange]
  split <;> omega

theorem Block.Inv.full_iff_occupancy (hb : b.Inv) : b.full = true ↔ b.occupancy = b.capacity - 1 := by
  have hw := hb.wr_lt
  have hr := hb.rd_lt
  rw [b.full_iff, hb.next_toNat, mod_of_lt_two_mul (by omega), Block.occupancy_eq hb.wrRange hb.rdRange]
  split_ifs <;> omega

/-- The live indices end where WR_IDX stands. -/
theorem Block.Inv.liveIdx_occupancy (hb : b.Inv) : b.liveIdx b.occupancy = b.wrIdx := by
  have hw := hb.wr_lt
  have hr := hb.rd_lt
  have hn := b.occupancy_lt
  refine BitVec.eq_of_toNat_eq ?_
  rw [b.liveIdx_toNat, mod_of_lt_two_mul (by omega), Block.occupancy_eq hb.wrRange hb.rdRange]
  split_ifs <;> omega

/-- The live indices begin where RD_IDX stands. -/
theorem Block.Inv.liveIdx_zero (hb : b.Inv) : b.liveIdx 0 = b.rdIdx := by
  refine BitVec.eq_of_toNat_eq ?_
  rw [b.liveIdx_toNat]
  exact Nat.mod_eq_of_lt hb.rd_lt

/-- WR_IDX is no live index: one slot stays free. -/
theorem Block.Inv.liveIdx_ne_wrIdx (hb : b.Inv) {k : Nat} (hk : k < b.occupancy) :
    b.liveIdx k ≠ b.wrIdx := by
  have hr := hb.rd_lt
  have hn := b.occupancy_lt
  intro h
  rw [← hb.liveIdx_occupancy] at h
  have h := congrArg BitVec.toNat h
  rw [b.liveIdx_toNat, b.liveIdx_toNat, mod_of_lt_two_mul (by omega), mod_of_lt_two_mul (by omega)] at h
  split_ifs at h <;> omega

/-! ### The statements about the index logic -/

/-- Settles O34: the masked increment is the increment modulo C, `Block.next_toNat_mod`. -/
theorem successorModCapacity : Obligations.SuccessorModCapacity := fun _ b i =>
  ⟨b.next_toNat i, fun _ _ hcap _ => Block.next_toNat_mod hcap i⟩

/-- Settles O36: both comparators read the occupancy, which is below C. -/
theorem comparatorsMeasureOccupancy : Obligations.ComparatorsMeasureOccupancy := by
  intro p b hb
  have hlt := b.occupancy_lt
  refine ⟨by omega, hb.empty_iff_occupancy, hb.full_iff_occupancy, fun hone => ?_, fun htwo => ?_⟩ <;>
    rw [hb.empty_iff_occupancy, hb.full_iff_occupancy] <;> omega

end Sys2Proof.Machine
end

section
/-! The abstract queue of 10_state.md R29 under the operations that move an index or a slot. -/

namespace Sys2Proof.Machine

variable {p : Params} {b : Block p}

/-- What the storage holds at the index of the k-th oldest element. -/
def Block.slotValue (b : Block p) (k : Nat) : Option (Elem p) := b.storage.read (b.slotAddr (b.liveIdx k))

theorem Block.queue_eq (b : Block p) : b.queue = (List.range b.occupancy).map b.slotValue := rfl

/-- The queue depends on the indices, the binding and the storage only. -/
theorem Block.queue_congr {b' : Block p} (hw : b'.wrIdx = b.wrIdx) (hr : b'.rdIdx = b.rdIdx)
    (hm : b'.mask = b.mask) (hbase : b'.base = b.base) (hs : b'.storage = b.storage) :
    b'.queue = b.queue := by
  simp only [Block.queue, Block.occupancy, Block.capacity, Block.slotAddr, Block.liveIdx, hw, hr, hm, hbase, hs]

/-- Equal indices leave no element. -/
theorem Block.queue_eq_nil_of_empty (h : b.wrIdx = b.rdIdx) : b.queue = [] := by
  simp [Block.queue_eq, Block.occupancy, h]

/-- A write to the slot of WR_IDX leaves the queue alone, as that slot is not live. -/
theorem Block.Inv.queue_pushW (hb : b.Inv) (hphase : b.phaseProd = .puW) : b.pushW.queue = b.queue := by
  obtain ⟨hplW, -, -⟩ := hb.pushInFlight (by simp [hphase])
  refine List.map_congr_left fun k hk => Memory.read_write_ne (fun h => ?_) b.storage b.plD
  rw [hplW] at h
  exact hb.liveIdx_ne_wrIdx (List.mem_range.1 hk) (hb.slotAddr_inj (b.liveIdx_le_mask k) hb.wrRange h)

/-- Publishing a PUSH makes one more element live. -/
theorem Block.Inv.occupancy_pushP (hb : b.Inv) (hphase : b.phaseProd = .puP) :
    b.pushP.occupancy = b.occupancy + 1 := by
  obtain ⟨-, hnext, hfull⟩ := hb.pushInFlight (by simp [hphase])
  have hwr : b.pushP.wrIdx.toNat = (b.wrIdx.toNat + 1) % b.capacity :=
    (congrArg BitVec.toNat hnext).trans (hb.next_toNat _)
  change (b.pushP.wrIdx.toNat + b.capacity - b.rdIdx.toNat) % b.capacity = _
  rw [hwr]
  refine circularDist_succ_left hb.wr_lt hb.rd_lt fun h => ?_
  simp [b.full_iff.2 ((hb.next_toNat _).trans h)] at hfull

/-- PUSH.P appends PL_D to the queue (10_state.md R29). -/
theorem Block.Inv.queue_pushP (hb : b.Inv) (hphase : b.phaseProd = .puP) :
    b.pushP.queue = b.queue ++ [some b.plD] := by
  obtain ⟨hplW, -, -⟩ := hb.pushInFlight (by simp [hphase])
  have hlast : b.slotValue b.occupancy = some b.plD := by
    rw [Block.slotValue, hb.liveIdx_occupancy, ← hplW]
    exact hb.pushedSlot hphase
  have hsame : b.pushP.slotValue = b.slotValue := rfl
  rw [Block.queue_eq, Block.queue_eq, hb.occupancy_pushP hphase, List.range_succ, List.map_append, hsame,
    List.map_singleton, hlast]

/-- Publishing a POP makes one element less live. -/
theorem Block.Inv.occupancy_popP (hb : b.Inv) (hphase : b.phaseCons = .poP) :
    b.occupancy = b.popP.occupancy + 1 := by
  obtain ⟨-, hnext, hempty⟩ := hb.popInFlight (by simp [hphase])
  have hrd : b.popP.rdIdx.toNat = (b.rdIdx.toNat + 1) % b.capacity :=
    (congrArg BitVec.toNat hnext).trans (hb.next_toNat _)
  change _ = (b.wrIdx.toNat + b.capacity - b.popP.rdIdx.toNat) % b.capacity + 1
  rw [hrd]
  refine circularDist_succ_right hb.wr_lt hb.rd_lt fun h => ?_
  simp [b.empty_iff.2 h] at hempty

/-- After POP.P the k-th oldest element is the one that was next after it. -/
theorem Block.Inv.slotValue_popP (hb : b.Inv) (hphase : b.phaseCons = .poP) (k : Nat) :
    b.popP.slotValue k = b.slotValue (k + 1) := by
  obtain ⟨-, hnext, -⟩ := hb.popInFlight (by simp [hphase])
  have hidx : b.popP.liveIdx k = b.liveIdx (k + 1) := by
    refine BitVec.eq_of_toNat_eq ?_
    have hrd : b.popP.rdIdx = b.next b.rdIdx := hnext
    have hcap : b.popP.capacity = b.capacity := rfl
    rw [Block.liveIdx_toNat, Block.liveIdx_toNat, hrd, hcap, hb.next_toNat, Nat.mod_add_mod,
      Nat.add_assoc, Nat.add_comm 1 k]
  exact congrArg (fun i => b.storage.read (b.slotAddr i)) hidx

/-- POP.P removes the first element of the queue, which is CL_D (10_state.md R29). -/
theorem Block.Inv.queue_popP (hb : b.Inv) (hphase : b.phaseCons = .poP) :
    b.queue = some b.clD :: b.popP.queue := by
  obtain ⟨hclR, -, -⟩ := hb.popInFlight (by simp [hphase])
  have hfirst : b.slotValue 0 = some b.clD := by
    rw [Block.slotValue, hb.liveIdx_zero, ← hclR]
    exact hb.poppedSlot hphase
  have hrest : b.popP.slotValue = b.slotValue ∘ Nat.succ := funext (hb.slotValue_popP hphase)
  rw [Block.queue_eq, Block.queue_eq, hb.occupancy_popP hphase, List.range_succ_eq_map, List.map_cons,
    List.map_map, hfirst, hrest]

end Sys2Proof.Machine
end

section
/-! The invariant under each operation that a step is made of. -/

namespace Sys2Proof.Machine

variable {p : Params} {b b' : Block p}

/-- `b'` has the indices, the binding, the storage and the latches of `b`. -/
def SameBufferAndLatches (b b' : Block p) : Prop :=
  b' = { b with
    state := b'.state, faultCause := b'.faultCause, faultPort := b'.faultPort, faultCmd := b'.faultCmd,
    phaseCtrl := b'.phaseCtrl, phaseProd := b'.phaseProd, phaseCons := b'.phaseCons,
    popData := b'.popData, popWritten := b'.popWritten,
    reqCtrl := b'.reqCtrl, reqProd := b'.reqProd, reqCons := b'.reqCons,
    turn := b'.turn, opnd := b'.opnd, responses := b'.responses, events := b'.events, draws := b'.draws }

/-- A fault is recorded exactly while the block is halted: the clause `faultRecord` of the invariant. -/
def Block.FaultRecordOk (b : Block p) : Prop :=
  if b.state = .halted then b.faultCause ≠ .none ∧ b.faultPort ≠ none
  else b.faultCause = .none ∧ b.faultPort = none ∧ b.faultCmd = 0

theorem Block.FaultRecordOk.congr (h : b.FaultRecordOk) (hs : b'.state = b.state)
    (hc : b'.faultCause = b.faultCause) (hp : b'.faultPort = b.faultPort) (hw : b'.faultCmd = b.faultCmd) :
    b'.FaultRecordOk := by
  rwa [Block.FaultRecordOk, hs, hc, hp, hw]

/-- Where a command in flight goes on or ends, and the buffer and the latches stay, the invariant stays. -/
theorem Block.Inv.of_sameBuffer (hb : b.Inv) (same : SameBufferAndLatches b b')
    (prod : b'.phaseProd = b.phaseProd ∨ b'.phaseProd = .idle)
    (cons : b'.phaseCons = b.phaseCons ∨ b'.phaseCons = .idle)
    (record : b'.FaultRecordOk) (unconfigured : b'.state = .uncfg → b.state = .uncfg) : b'.Inv := by
  rw [same]
  have hprod : ∀ {x}, b'.phaseProd = x → x ≠ .idle → b.phaseProd = x := fun hx hne =>
    prod.elim (fun h => h.symm.trans hx) fun h => absurd (hx.symm.trans h) hne
  have hcons : ∀ {x}, b'.phaseCons = x → x ≠ .idle → b.phaseCons = x := fun hx hne =>
    cons.elim (fun h => h.symm.trans hx) fun h => absurd (hx.symm.trans h) hne
  exact
    { legal := hb.legal
      capacity := hb.capacity
      wrRange := hb.wrRange
      rdRange := hb.rdRange
      pushInFlight := fun h => hb.pushInFlight (hprod rfl h ▸ h)
      popInFlight := fun h => hb.popInFlight (hcons rfl h ▸ h)
      pushedSlot := fun h => hb.pushedSlot (hprod h (by decide))
      poppedSlot := fun h => hb.poppedSlot (hcons h (by decide))
      liveWritten := hb.liveWritten
      storageForm := hb.storageForm
      faultRecord := record
      unconfigured := fun h => by
        obtain ⟨hmask, hbase, hp, hc⟩ := hb.unconfigured (unconfigured h)
        exact ⟨hmask, hbase, prod.elim (·.trans hp) id, cons.elim (·.trans hc) id⟩ }

/-- The same where STATE and the fault record stay as well. -/
theorem Block.Inv.of_sameControl (hb : b.Inv) (same : SameBufferAndLatches b b')
    (hs : b'.state = b.state) (hc : b'.faultCause = b.faultCause) (hp : b'.faultPort = b.faultPort)
    (hw : b'.faultCmd = b.faultCmd) (prod : b'.phaseProd = b.phaseProd ∨ b'.phaseProd = .idle)
    (cons : b'.phaseCons = b.phaseCons ∨ b'.phaseCons = .idle) : b'.Inv :=
  hb.of_sameBuffer same prod cons (Block.FaultRecordOk.congr hb.faultRecord hs hc hp hw) hs.symm.trans

theorem Block.Inv.moved (hb : b.Inv) (rest : List (Event p)) (n : Nat) : (b.moved rest n).Inv :=
  hb.of_sameControl rfl rfl rfl rfl rfl (.inl rfl) (.inl rfl)

theorem Block.Inv.atTurn (hb : b.Inv) (q : Port) : (b.atTurn q).Inv :=
  hb.of_sameControl rfl rfl rfl rfl rfl (.inl rfl) (.inl rfl)

theorem Block.Inv.present (hb : b.Inv) (q : Port) (r : Option (Request p)) (rest : List (Event p)) :
    ({ b.setRequest q r with events := rest } : Block p).Inv := by
  cases q <;> exact hb.of_sameControl rfl rfl rfl rfl rfl (.inl rfl) (.inl rfl)

theorem Block.Inv.take (hb : b.Inv) (q : Port) (r : Request p) : (b.take q r).Inv := by
  cases q <;> exact hb.of_sameControl rfl rfl rfl rfl rfl (.inl rfl) (.inl rfl)

/-- complete(q, rsp) ends the command in flight on `q`, if there is one. -/
theorem Block.Inv.complete (hb : b.Inv) (q : Port) (rsp : Rsp) : (b.complete q rsp).Inv := by
  refine hb.of_sameControl (by cases q <;> rfl) ?_ ?_ ?_ ?_ ?prod ?cons
  case prod | cons => cases q <;> simp
  all_goals simp

/-- A fault entry of a block that is not halted (60_exceptions.md R143). -/
theorem Block.Inv.raise (hb : b.Inv) (q : Port) {c : Cause} (hc : c ≠ .none) (cmd : CmdWord) :
    (b.raise q c cmd).Inv := by
  refine hb.of_sameBuffer (by cases q <;> rfl) ?prod ?cons ?record ?unconfigured
  case prod | cons => cases q <;> simp
  case record => simp [Block.FaultRecordOk, hc]
  case unconfigured => simp

theorem Block.Inv.reportEmpty (hb : b.Inv) : b.reportEmpty.Inv := hb.complete _ _

theorem Block.Inv.configured_of_push (hb : b.Inv) (h : b.phaseProd ≠ .idle) : b.state ≠ .uncfg := by
  intro hs
  obtain ⟨-, -, hp, -⟩ := hb.unconfigured hs
  exact h hp

theorem Block.Inv.configured_of_pop (hb : b.Inv) (h : b.phaseCons ≠ .idle) : b.state ≠ .uncfg := by
  intro hs
  obtain ⟨-, -, -, hc⟩ := hb.unconfigured hs
  exact h hc

/-! ### PUSH -/

theorem Block.pushS_of_full (b : Block p) (h : b.full = true) : b.pushS = b.complete .prod .doneFalse :=
  if_pos (beq_iff_eq.1 h)

theorem Block.pushS_of_not_full (b : Block p) (h : b.full = false) :
    b.pushS = { b with plW := b.wrIdx, plNW := b.next b.wrIdx, plD := opndElem b.opnd, phaseProd := .puW } :=
  if_neg (b.full_eq_false.1 h)

theorem Block.Inv.pushS (hb : b.Inv) (hready : b.state = .ready) : b.pushS.Inv := by
  cases hfull : b.full
  · rw [b.pushS_of_not_full hfull]
    exact
      { hb with
        pushInFlight := fun _ => ⟨rfl, rfl, hfull⟩
        pushedSlot := nofun
        unconfigured := fun h => absurd (hready.symm.trans h) (by decide) }
  · rw [b.pushS_of_full hfull]
    exact hb.complete _ _

theorem Block.Inv.pushW (hb : b.Inv) (hphase : b.phaseProd = .puW) : b.pushW.Inv := by
  have hpush := hb.pushInFlight (by simp [hphase])
  have hslots : b.phaseCons = .poP → b.slotAddr b.clR ≠ b.slotAddr b.plW := by
    intro hpop h
    obtain ⟨hclR, -, hempty⟩ := hb.popInFlight (by simp [hpop])
    rw [hclR, hpush.1] at h
    exact b.empty_eq_false.1 hempty (hb.slotAddr_inj hb.rdRange hb.wrRange h)
  exact
    { hb with
      pushInFlight := fun _ => hpush
      pushedSlot := fun _ => Memory.read_write_same _ _ _
      poppedSlot := fun h => (Memory.read_write_ne (hslots h) _ _).trans (hb.poppedSlot h)
      liveWritten := hb.queue_pushW hphase ▸ hb.liveWritten
      storageForm := Memory.write_wf hb.storageForm _ _
      unconfigured := fun h => absurd h (hb.configured_of_push (by simp [hphase])) }

theorem Block.Inv.pushP (hb : b.Inv) (hphase : b.phaseProd = .puP) : b.pushP.Inv := by
  obtain ⟨-, hnext, hfull⟩ := hb.pushInFlight (by simp [hphase])
  exact
    { hb with
      wrRange := (congrArg BitVec.toNat hnext).trans_le (hb.next_le_mask _)
      pushInFlight := fun h => absurd rfl h
      pushedSlot := nofun
      popInFlight := fun h => by
        obtain ⟨hr, hn, -⟩ := hb.popInFlight h
        exact ⟨hr, hn, Block.empty_eq_false _ |>.2 fun he => b.full_eq_false.1 hfull (he.trans hnext).symm⟩
      liveWritten := by
        simp only [hb.queue_pushP hphase, List.mem_append, List.mem_singleton]
        rintro e (he | rfl)
        · exact hb.liveWritten e he
        · exact Option.some_ne_none _
      unconfigured := fun h => absurd h (hb.configured_of_push (by simp [hphase])) }

/-! ### POP -/

theorem Block.popS_of_empty (b : Block p) (h : b.empty = true) : b.popS = b.complete .cons .doneFalse :=
  if_pos (beq_iff_eq.1 h)

theorem Block.popS_of_not_empty (b : Block p) (h : b.empty = false) :
    b.popS = { b with clR := b.rdIdx, clNR := b.next b.rdIdx, phaseCons := .poR } :=
  if_neg (b.empty_eq_false.1 h)

theorem Block.Inv.popS (hb : b.Inv) (hready : b.state = .ready) : b.popS.Inv := by
  cases hempty : b.empty
  · rw [b.popS_of_not_empty hempty]
    exact
      { hb with
        popInFlight := fun _ => ⟨rfl, rfl, hempty⟩
        poppedSlot := nofun
        unconfigured := fun h => absurd (hready.symm.trans h) (by decide) }
  · rw [b.popS_of_empty hempty]
    exact hb.complete _ _

theorem Block.Inv.popR (hb : b.Inv) (hphase : b.phaseCons = .poR) {d : Elem p}
    (slot : b.storage.read (b.slotAddr b.clR) = some d) :
    ({ b with clD := d, phaseCons := .poP } : Block p).Inv :=
  { hb with
    popInFlight := fun _ => hb.popInFlight (by simp [hphase])
    poppedSlot := fun _ => slot
    unconfigured := fun h => absurd h (hb.configured_of_pop (by simp [hphase])) }

theorem Block.Inv.popP (hb : b.Inv) (hphase : b.phaseCons = .poP) : b.popP.Inv := by
  obtain ⟨-, hnext, hempty⟩ := hb.popInFlight (by simp [hphase])
  exact
    { hb with
      rdRange := (congrArg BitVec.toNat hnext).trans_le (hb.next_le_mask _)
      popInFlight := fun h => absurd rfl h
      poppedSlot := nofun
      pushInFlight := fun h => by
        obtain ⟨hw, hn, -⟩ := hb.pushInFlight h
        refine ⟨hw, hn, Block.full_eq_false _ |>.2 fun hf => b.empty_eq_false.1 hempty ?_⟩
        exact (hb.next_inj hb.wrRange hb.rdRange (hf.trans hnext)).symm
      liveWritten := fun e he => hb.liveWritten e (by rw [hb.queue_popP hphase]; exact .tail _ he)
      unconfigured := fun h => absurd h (hb.configured_of_pop (by simp [hphase])) }

/-! ### SETUP and reset -/

/-- A legal capacity is a power of two of a legal size (40_setup.md R101). -/
theorem exists_pow_of_capLegal {cap : Nat} (h : capLegal p cap = true) :
    ∃ k, k ≤ p.capMaxLog2 ∧ cap = 2 ^ k := by
  simp only [capLegal, Bool.and_eq_true, bne_iff_ne, beq_iff_eq, decide_eq_true_eq] at h
  obtain ⟨⟨hne, hand⟩, hle⟩ := h
  obtain ⟨k, rfl⟩ := (Nat.and_sub_one_eq_zero_iff_isPowerOfTwo hne).1 hand
  exact ⟨k, (Nat.pow_le_pow_iff_right (by decide)).1 hle, rfl⟩

/-- The capacity that a SETUP binds is the one it was given. -/
theorem Block.setup_capacity (hlegal : p.Legal) {cap : Nat} (h : capLegal p cap = true) :
    (b.setup cap).capacity = cap := by
  obtain ⟨k, hk, rfl⟩ := exists_pow_of_capLegal h
  obtain ⟨-, -, -, hmax⟩ := hlegal
  have hpos : 0 < 2 ^ k := Nat.two_pow_pos k
  have hle : 2 ^ k ≤ 2 ^ p.idxW := Nat.pow_le_pow_right (by decide) (by omega)
  change (BitVec.ofNat p.idxW (2 ^ k - 1)).toNat + 1 = 2 ^ k
  rw [BitVec.toNat_ofNat, Nat.mod_eq_of_lt (by omega)]
  omega

/-- A block with both indices 0 and nothing in flight, over a storage in its form, needs a legal capacity and a
consistent fault record only. -/
theorem Block.Inv.of_cleared (hlegal : p.Legal) (hcap : ∃ k, k ≤ p.capMaxLog2 ∧ b.capacity = 2 ^ k)
    (hw : b.wrIdx = 0) (hr : b.rdIdx = 0) (hprod : b.phaseProd = .idle) (hcons : b.phaseCons = .idle)
    (hform : b.storage.wf = true) (record : b.FaultRecordOk)
    (unconfigured : b.state = .uncfg → b.mask = 0 ∧ b.base = 0) : b.Inv where
  legal := hlegal
  capacity := hcap
  wrRange := by simp [hw]
  rdRange := by simp [hr]
  pushInFlight h := absurd hprod h
  popInFlight h := absurd hcons h
  pushedSlot h := by simp [hprod] at h
  poppedSlot h := by simp [hcons] at h
  liveWritten := by simp [Block.queue_eq_nil_of_empty (hw.trans hr.symm)]
  storageForm := hform
  faultRecord := record
  unconfigured h := ⟨(unconfigured h).1, (unconfigured h).2, hprod, hcons⟩

theorem Block.Inv.setup (hb : b.Inv) (live : b.state ≠ .halted) (hprod : b.phaseProd = .idle)
    (hcons : b.phaseCons = .idle) {cap : Nat} (h : capLegal p cap = true) : (b.setup cap).Inv := by
  refine .of_cleared hb.legal ?_ rfl rfl hprod hcons hb.storageForm ?_ nofun
  · rw [Block.setup_capacity hb.legal h]
    exact exists_pow_of_capLegal h
  · have hrec := hb.faultRecord
    rw [if_neg live] at hrec
    exact hrec

/-- MASK = 0 binds capacity 1. -/
theorem Block.exists_capacity_of_mask_zero (h : b.mask = 0) : ∃ k, k ≤ p.capMaxLog2 ∧ b.capacity = 2 ^ k :=
  ⟨0, Nat.zero_le _, by simp [Block.capacity, h]⟩

theorem Block.Inv.reset (hb : b.Inv) (rest : List (Event p)) :
    ({ b.reset with events := rest } : Block p).Inv :=
  .of_cleared hb.legal (Block.exists_capacity_of_mask_zero rfl) rfl rfl rfl rfl hb.storageForm ⟨rfl, rfl, rfl⟩
    fun _ => ⟨rfl, rfl⟩

/-- Settles O43: right after reset the block is cleared and MASK = 0 binds capacity 1 (`Block.Inv.of_cleared`). -/
theorem invariantAtReset : Obligations.InvariantAtReset := fun p hlegal =>
  .of_cleared hlegal (Block.exists_capacity_of_mask_zero rfl) rfl rfl rfl rfl (Memory.initial_wf p)
    ⟨rfl, rfl, rfl⟩ fun _ => ⟨rfl, rfl⟩

/-! ### Every step -/

theorem MicroStep.keeps_inv {q : Port} (m : MicroStep b q b') (hb : b.Inv) : b'.Inv := by
  cases m with
  | void => exact hb
  | refused => exact (hb.take _ _).complete _ _
  | violation free req live cause => exact (hb.take _ _).raise _ cause _
  | setup req live word prodIdle consIdle legal => exact (hb.take .ctrl _).setup live prodIdle consIdle legal
  | pushS free req ready => exact (hb.take _ _).pushS ready
  | pushW phase => exact (hb.atTurn _).pushW phase
  | pushP phase => exact (hb.atTurn _).pushP phase
  | popS free req ready => exact (hb.take _ _).popS ready
  | popR phase live slot => exact (hb.atTurn .cons).popR phase slot
  | popP phase => exact (hb.atTurn _).popP phase
  | isEmpty => exact (hb.take _ _).reportEmpty
  | abandon => exact (hb.atTurn _).complete _ _

theorem StepCase.keeps_inv (c : StepCase b b') (hb : b.Inv) : b'.Inv := by
  cases c with
  | idle => exact hb
  | present => exact hb.present _ _ _
  | reset => exact hb.reset _
  | turn chosen noReset micro => exact micro.keeps_inv (hb.moved _ _)

/-- The block form of `step_cases`. -/
theorem stepCase_of_step (h : step { par := p, blk := b } = .next { par := p, blk := b' }) : StepCase b b' := by
  obtain ⟨b'', heq, hc⟩ := step_cases h
  cases heq
  exact hc

/-- Settles O44: each step case is made of operations that keep the invariant. -/
theorem stepKeepsInvariant : Obligations.StepKeepsInvariant :=
  fun _ _ _ hb h => (stepCase_of_step h).keeps_inv hb

end Sys2Proof.Machine
end

section
/-! Which turn answers as a successful SETUP does, and what each turn moves: STATE (10_state.md R30), the
indices (R22) and POP_DATA. -/

namespace Sys2Proof.Machine

variable {p : Params} {b b' : Block p} {q : Port}

@[simp] theorem Block.reportEmpty_eq (b : Block p) : b.reportEmpty = b.complete b.turn (.done b.empty) := rfl

/-- The answer 01 on CTRL, which says of a step that it is a successful SETUP. -/
def setupDone : Response := { port := .ctrl, rsp := .doneTrue }

theorem rebinds_iff (b b' : Block p) : Rebinds b b' ↔ b'.responses = b.responses ++ [setupDone] := Iff.rfl

/-- A step without a response is no SETUP. -/
theorem not_rebinds_of_silent (h : b'.responses = b.responses) : ¬ Rebinds b b' := by
  simp [rebinds_iff, h]

/-- Nor is one that completes a command with any other response. -/
theorem not_rebinds_complete {x : Block p} {rsp : Rsp} (hx : x.responses = b.responses)
    (hrsp : q = .ctrl → rsp ≠ .doneTrue) : ¬ Rebinds b (x.complete q rsp) := by
  simpa [rebinds_iff, hx, setupDone] using hrsp

/-- What PUSH.S leaves alone. -/
theorem Block.pushS_frame (b : Block p) :
    b.pushS = { b with
      plW := b.pushS.plW, plNW := b.pushS.plNW, plD := b.pushS.plD, phaseProd := b.pushS.phaseProd,
      phaseCtrl := b.pushS.phaseCtrl, responses := b.pushS.responses } := by
  cases h : b.full
  · rw [b.pushS_of_not_full h]
  · rw [b.pushS_of_full h]
    rfl

/-- What POP.S leaves alone. -/
theorem Block.popS_frame (b : Block p) :
    b.popS = { b with
      clR := b.popS.clR, clNR := b.popS.clNR, phaseCons := b.popS.phaseCons,
      phaseCtrl := b.popS.phaseCtrl, responses := b.popS.responses } := by
  cases h : b.empty
  · rw [b.popS_of_not_empty h]
  · rw [b.popS_of_empty h]
    rfl

theorem Block.not_rebinds_pushS (b : Block p) : ¬ Rebinds b b.pushS := by
  cases h : b.full
  · exact not_rebinds_of_silent (by rw [b.pushS_of_not_full h])
  · exact b.pushS_of_full h ▸ not_rebinds_complete rfl (by simp)

theorem Block.not_rebinds_popS (b : Block p) : ¬ Rebinds b b.popS := by
  cases h : b.empty
  · exact not_rebinds_of_silent (by rw [b.popS_of_not_empty h])
  · exact b.popS_of_empty h ▸ not_rebinds_complete rfl (by simp)

/-- The turn from `b` to `b'` is a successful SETUP: it is CTRL's, of a block that is not halted and has nothing
in flight, and it leaves a configured, empty buffer. -/
structure SuccessfulSetup (b : Block p) (q : Port) (b' : Block p) : Prop where
  port : q = .ctrl
  live : b.state ≠ .halted
  prodIdle : b.phaseProd = .idle
  consIdle : b.phaseCons = .idle
  ready : b'.state = .ready
  empty : b'.wrIdx = b'.rdIdx
  answer : Rebinds b b'

theorem successfulSetup_setup (r : Request p) (cap : Nat) (live : b.state ≠ .halted)
    (prodIdle : b.phaseProd = .idle) (consIdle : b.phaseCons = .idle) : SuccessfulSetup b .ctrl ((b.take .ctrl r).setup cap) :=
  ⟨rfl, live, prodIdle, consIdle, rfl, rfl, by simp [rebinds_iff, setupDone, Block.setup]⟩

/-- A turn is a successful SETUP, or it does not answer as one, and then it either halts the block with a
cause or keeps STATE and FAULT_CAUSE. -/
theorem MicroStep.setup_or_fault_or_keeps (m : MicroStep b q b') :
    SuccessfulSetup b q b' ∨ (¬ Rebinds b b' ∧
      ((b.state ≠ .halted ∧ b'.state = .halted ∧ b'.faultCause ≠ .none) ∨
        (b'.faultCause = b.faultCause ∧ b'.state = b.state))) := by
  cases m with
  | void => exact .inr ⟨not_rebinds_of_silent rfl, .inr ⟨rfl, rfl⟩⟩
  | refused => exact .inr ⟨not_rebinds_complete (by simp) (by simp), .inr ⟨by simp, by simp⟩⟩
  | violation free req live cause =>
    exact .inr ⟨not_rebinds_complete (by simp) (by simp), .inl ⟨live, by simp, by simpa using cause⟩⟩
  | setup req live word prodIdle consIdle => exact .inl (successfulSetup_setup _ _ live prodIdle consIdle)
  | @pushS r =>
    refine .inr ⟨(b.take .prod r).not_rebinds_pushS, .inr ?_⟩
    rw [Block.pushS_frame]
    exact ⟨rfl, rfl⟩
  | pushW => exact .inr ⟨not_rebinds_of_silent rfl, .inr ⟨rfl, rfl⟩⟩
  | pushP => exact .inr ⟨not_rebinds_complete rfl (by simp), .inr ⟨rfl, rfl⟩⟩
  | @popS r =>
    refine .inr ⟨(b.take .cons r).not_rebinds_popS, .inr ?_⟩
    rw [Block.popS_frame]
    exact ⟨rfl, rfl⟩
  | popR => exact .inr ⟨not_rebinds_of_silent rfl, .inr ⟨rfl, rfl⟩⟩
  | popP => exact .inr ⟨not_rebinds_complete rfl (by simp), .inr ⟨rfl, rfl⟩⟩
  | isEmpty free req live word port =>
    exact .inr ⟨not_rebinds_complete (by simp) (by simp [port]), .inr ⟨by simp, by simp⟩⟩
  | abandon => exact .inr ⟨not_rebinds_complete (by simp) (by simp), .inr ⟨by simp, by simp⟩⟩

theorem MicroStep.setup_of_rebinds (m : MicroStep b q b') (h : Rebinds b b') : SuccessfulSetup b q b' :=
  m.setup_or_fault_or_keeps.resolve_right fun hn => hn.1 h

/-- Who writes WR_IDX (10_state.md R22). -/
theorem MicroStep.wrIdx_cases (m : MicroStep b q b') :
    SuccessfulSetup b q b' ∨ (q = .prod ∧ b.phaseProd = .puP ∧ b.state ≠ .halted ∧ b'.wrIdx = b.plNW) ∨
      b'.wrIdx = b.wrIdx := by
  cases m with
  | setup req live word prodIdle consIdle => exact .inl (successfulSetup_setup _ _ live prodIdle consIdle)
  | pushP phase live => exact .inr (.inl ⟨rfl, phase, live, rfl⟩)
  | pushS => exact .inr (.inr (by rw [Block.pushS_frame]; rfl))
  | popS => exact .inr (.inr (by rw [Block.popS_frame]; rfl))
  | void | pushW | popR | popP => exact .inr (.inr rfl)
  | refused | violation | isEmpty | abandon => exact .inr (.inr (by simp))

/-- Who writes RD_IDX (10_state.md R22). -/
theorem MicroStep.rdIdx_cases (m : MicroStep b q b') :
    SuccessfulSetup b q b' ∨ (q = .cons ∧ b.phaseCons = .poP ∧ b.state ≠ .halted ∧ b'.rdIdx = b.clNR) ∨
      b'.rdIdx = b.rdIdx := by
  cases m with
  | setup req live word prodIdle consIdle => exact .inl (successfulSetup_setup _ _ live prodIdle consIdle)
  | popP phase live => exact .inr (.inl ⟨rfl, phase, live, rfl⟩)
  | pushS => exact .inr (.inr (by rw [Block.pushS_frame]; rfl))
  | popS => exact .inr (.inr (by rw [Block.popS_frame]; rfl))
  | void | pushW | popR | pushP => exact .inr (.inr rfl)
  | refused | violation | isEmpty | abandon => exact .inr (.inr (by simp))

/-! ### What a turn publishes and delivers -/

/-- What a turn of port `q` publishes. -/
def Block.publishedBy (b : Block p) (q : Port) : List (Elem p) :=
  if q = .prod ∧ b.phaseProd = .puP ∧ b.state ≠ .halted then [b.plD] else []

/-- What a turn of port `q` delivers. -/
def Block.deliveredBy (b : Block p) (q : Port) : List (Elem p) :=
  if q = .cons ∧ b.phaseCons = .poP ∧ b.state ≠ .halted then [b.clD] else []

theorem Block.published_of_selected (h : b.selected = some q) : b.published = b.publishedBy q := by
  simp [Block.published, Block.publishedBy, h]

theorem Block.delivered_of_selected (h : b.selected = some q) : b.delivered = b.deliveredBy q := by
  simp [Block.delivered, Block.deliveredBy, h]

theorem Block.published_of_none (h : b.selected = none) : b.published = [] := by simp [Block.published, h]

theorem Block.delivered_of_none (h : b.selected = none) : b.delivered = [] := by simp [Block.delivered, h]

/-- A port with nothing in flight publishes and delivers nothing. -/
theorem Block.moves_nothing_of_free (free : b.busy q = false) : b.publishedBy q = [] ∧ b.deliveredBy q = [] := by
  cases q <;> simp_all [Block.publishedBy, Block.deliveredBy]

/-- A halted block publishes and delivers nothing. -/
theorem Block.moves_nothing_of_halted (halted : b.state = .halted) :
    b.publishedBy q = [] ∧ b.deliveredBy q = [] := by
  simp [Block.publishedBy, Block.deliveredBy, halted]

/-- A turn delivers CL_D to POP_DATA, or delivers nothing and leaves POP_DATA. -/
theorem MicroStep.popData_cases (m : MicroStep b q b') :
    (b.deliveredBy q = [b.clD] ∧ b'.popData = b.clD ∧ b'.popWritten = true) ∨
    (b.deliveredBy q = [] ∧ b'.popData = b.popData ∧ b'.popWritten = b.popWritten) := by
  cases m with
  | popP phase live => exact .inl ⟨by simp [Block.deliveredBy, phase, live], rfl, rfl⟩
  | void free => exact .inr ⟨(Block.moves_nothing_of_free free).2, rfl, rfl⟩
  | refused free | violation free | isEmpty free =>
    exact .inr ⟨(Block.moves_nothing_of_free free).2, by simp, by simp⟩
  | abandon busy halted => exact .inr ⟨(Block.moves_nothing_of_halted halted).2, by simp, by simp⟩
  | setup | pushW | pushP => exact .inr ⟨by simp [Block.deliveredBy], rfl, rfl⟩
  | pushS => exact .inr ⟨by simp [Block.deliveredBy], by rw [Block.pushS_frame]; exact ⟨rfl, rfl⟩⟩
  | popS free => exact .inr ⟨by simp [Block.deliveredBy, free], by rw [Block.popS_frame]; exact ⟨rfl, rfl⟩⟩
  | popR phase => exact .inr ⟨by simp [Block.deliveredBy, phase], rfl, rfl⟩

/-! ### The queue (10_state.md R29) -/

@[simp] theorem Block.queue_complete (b : Block p) (q : Port) (rsp : Rsp) : (b.complete q rsp).queue = b.queue :=
  Block.queue_congr (by simp) (by simp) (by simp) (by simp) (by simp)

@[simp] theorem Block.queue_raise (b : Block p) (q : Port) (c : Cause) (cmd : CmdWord) :
    (b.raise q c cmd).queue = b.queue := Block.queue_complete _ q .fault

@[simp] theorem Block.queue_take (b : Block p) (q : Port) (r : Request p) : (b.take q r).queue = b.queue :=
  Block.queue_congr (by simp) (by simp) (by simp) (by simp) (by simp)

@[simp] theorem Block.queue_atTurn (b : Block p) (q : Port) : (b.atTurn q).queue = b.queue := rfl

@[simp] theorem Block.queue_pushS (b : Block p) : b.pushS.queue = b.queue := by
  rw [Block.pushS_frame]
  rfl

@[simp] theorem Block.queue_popS (b : Block p) : b.popS.queue = b.queue := by
  rw [Block.popS_frame]
  rfl

/-- A turn that is no successful SETUP appends what it publishes and removes what it delivers. -/
theorem MicroStep.queue_append (m : MicroStep b q b') (hb : b.Inv) (hn : ¬ SuccessfulSetup b q b') :
    b.queue ++ (b.publishedBy q).map some = (b.deliveredBy q).map some ++ b'.queue := by
  have quiet : b.publishedBy q = [] ∧ b.deliveredBy q = [] → b'.queue = b.queue →
      b.queue ++ (b.publishedBy q).map some = (b.deliveredBy q).map some ++ b'.queue := by
    rintro ⟨hpub, hdel⟩ hq
    simp [hpub, hdel, hq]
  cases m with
  | void free => exact quiet (Block.moves_nothing_of_free free) rfl
  | refused free | violation free | isEmpty free => exact quiet (Block.moves_nothing_of_free free) (by simp)
  | abandon busy halted => exact quiet (Block.moves_nothing_of_halted halted) (by simp)
  | setup req live word prodIdle consIdle =>
    exact absurd (successfulSetup_setup _ _ live prodIdle consIdle) hn
  | pushS free => exact quiet (Block.moves_nothing_of_free (by simp [free])) (by simp)
  | popS free => exact quiet (Block.moves_nothing_of_free (by simp [free])) (by simp)
  | pushW phase live =>
    refine quiet (by simp [Block.publishedBy, Block.deliveredBy, phase]) ?_
    simp [(hb.atTurn .prod).queue_pushW phase]
  | popR phase live => exact quiet (by simp [Block.publishedBy, Block.deliveredBy, phase]) rfl
  | pushP phase live =>
    simp [Block.publishedBy, Block.deliveredBy, phase, live, (hb.atTurn .prod).queue_pushP phase]
  | popP phase live =>
    have hq : b.queue = some b.clD :: (b.atTurn .cons).popP.queue := (hb.atTurn .cons).queue_popP phase
    simp [Block.publishedBy, Block.deliveredBy, phase, live, hq]

theorem SuccessfulSetup.queue_eq_nil (h : SuccessfulSetup b q b') : b'.queue = [] :=
  Block.queue_eq_nil_of_empty h.empty

end Sys2Proof.Machine
end

section
/-! What a step moves: the turn's facts, lifted to every step case. -/

namespace Sys2Proof.Machine

variable {p : Params} {b b' : Block p}

/-- While an agent presents a request on a free port, no port takes a turn. -/
theorem Block.selected_of_present {q : Port} {r : Request p} {rest : List (Event p)}
    (head : b.events = .present q r :: rest) (free : b.request q = none) :
    b.selected = none ∧ b.resetting = false := by
  simp [Block.selected, Block.resetting, head, free]

theorem Block.resetting_of_reset {rest : List (Event p)} (head : b.events = .reset :: rest) :
    b.resetting = true := by
  simp [Block.resetting, head]

/-- A step is the reset input, or a turn of the selected port, or it moves no register, slot or response. -/
theorem StepCase.reset_or_turn_or_quiet (c : StepCase b b') :
    (∃ rest, b.resetting = true ∧ b' = { b.reset with events := rest }) ∨
    (∃ q rest n, b.selected = some q ∧ b.resetting = false ∧ MicroStep (b.moved rest n) q b') ∨
    (b.selected = none ∧ b.resetting = false ∧ b' = { b with
      reqCtrl := b'.reqCtrl, reqProd := b'.reqProd, reqCons := b'.reqCons, events := b'.events }) := by
  cases c with
  | idle none noReset => exact .inr (.inr ⟨none, noReset, rfl⟩)
  | @present q r rest head free =>
    obtain ⟨hsel, hreset⟩ := Block.selected_of_present head free
    exact .inr (.inr ⟨hsel, hreset, by cases q <;> rfl⟩)
  | reset head => exact .inl ⟨_, Block.resetting_of_reset head, rfl⟩
  | turn chosen noReset micro => exact .inr (.inl ⟨_, _, _, chosen, noReset, micro⟩)

/-- Settles O16: by what a turn does to STATE (`MicroStep.setup_or_fault_or_keeps`); only a turn and the reset
input move STATE. -/
theorem stateTransitions : Obligations.StateTransitions := by
  intro p b b' h
  rcases (stepCase_of_step h).reset_or_turn_or_quiet with
    ⟨rest, hreset, rfl⟩ | ⟨q, rest, n, -, hno, m⟩ | ⟨-, hno, hb'⟩
  · exact .inl ⟨hreset, rfl⟩
  · rcases m.setup_or_fault_or_keeps with hs | ⟨hn, ⟨hlive, hhalt, hcause⟩ | ⟨hcause, hstate⟩⟩
    · exact .inr (.inl ⟨hno, hs.live, hs.ready, hs.answer⟩)
    · exact .inr (.inr (.inl ⟨hno, hlive, hhalt, hcause⟩))
    · exact .inr (.inr (.inr ⟨hno, hn, hcause, hstate⟩))
  · rw [hb']
    exact .inr (.inr (.inr ⟨hno, not_rebinds_of_silent rfl, rfl, rfl⟩))

/-- Settles O39: by who writes each index in a turn (`MicroStep.wrIdx_cases`, `MicroStep.rdIdx_cases`). -/
theorem singleWriterPerIndex : Obligations.SingleWriterPerIndex := by
  intro p b b' h hno
  rcases (stepCase_of_step h).reset_or_turn_or_quiet with
    ⟨rest, hreset, -⟩ | ⟨q, rest, n, hsel, -, m⟩ | ⟨-, -, hb'⟩
  · simp [hno] at hreset
  · constructor <;> intro hne
    · rcases m.wrIdx_cases with hs | ⟨rfl, hphase, hlive, hw⟩ | hsame
      · exact .inr ⟨hs.answer, hs.prodIdle, hs.consIdle⟩
      · exact .inl ⟨hsel, hphase, hlive, hw⟩
      · exact absurd hsame hne
    · rcases m.rdIdx_cases with hs | ⟨rfl, hphase, hlive, hr⟩ | hsame
      · exact .inr ⟨hs.answer, hs.prodIdle, hs.consIdle⟩
      · exact .inl ⟨hsel, hphase, hlive, hr⟩
      · exact absurd hsame hne
  · rw [hb']
    exact ⟨fun hne => absurd rfl hne, fun hne => absurd rfl hne⟩

/-- Settles O47: a turn refines the abstract queue (`MicroStep.queue_append`, `MicroStep.popData_cases`), and a
step without a turn moves neither the queue nor POP_DATA. -/
theorem queueRefinement : Obligations.QueueRefinement := by
  intro p b b' hb h hno
  rcases (stepCase_of_step h).reset_or_turn_or_quiet with
    ⟨rest, hreset, -⟩ | ⟨q, rest, n, hsel, -, m⟩ | ⟨hsel, -, hb'⟩
  · simp [hno] at hreset
  · rw [Block.published_of_selected hsel, Block.delivered_of_selected hsel]
    refine ⟨fun hr => (m.setup_of_rebinds hr).queue_eq_nil,
      fun hr => m.queue_append (hb.moved rest n) fun hs => hr hs.answer, fun d hd => ?_, fun hd => ?_⟩
    · rcases m.popData_cases with ⟨hdel, hdata, hwritten⟩ | ⟨hdel, -⟩
      · obtain rfl : b.clD = d := List.singleton_inj.1 (hdel.symm.trans hd)
        exact ⟨hdata, hwritten⟩
      · cases hdel.symm.trans hd
    · rcases m.popData_cases with ⟨hdel, -⟩ | ⟨-, hsame⟩
      · cases hdel.symm.trans hd
      · exact hsame
  · rw [Block.published_of_none hsel, Block.delivered_of_none hsel, hb']
    refine ⟨fun hr => absurd hr (not_rebinds_of_silent rfl), fun _ => ?_, nofun, fun _ => ⟨rfl, rfl⟩⟩
    rw [List.map_nil, List.append_nil, List.nil_append]
    rfl

end Sys2Proof.Machine
end

section
/-! The step, case by case of what comes next, and the observation interface. -/

namespace Sys2Proof.Machine

variable {p : Params} {b : Block p}

/-! ### A turn and a step, as equations -/

theorem State.takeTurn_of_busy {q : Port} (h : b.busy q = true) :
    State.takeTurn { par := p, blk := b } q = exec (inFlight q) { par := p, blk := b.atTurn q } := by
  simp [State.takeTurn, h, Block.atTurn]

theorem State.takeTurn_of_void {q : Port} (free : b.busy q = false) (none : b.request q = none) :
    State.takeTurn { par := p, blk := b } q = .next { par := p, blk := b } := by
  simp [State.takeTurn, free, none]

theorem State.takeTurn_of_request {q : Port} {r : Request p} (free : b.busy q = false)
    (req : b.request q = some r) :
    State.takeTurn { par := p, blk := b } q = State.accept { par := p, blk := b } q r := by
  simp [State.takeTurn, free, req]

theorem step_of_present {q : Port} {r : Request p} {rest : List (Event p)}
    (head : b.events = .present q r :: rest) (free : b.request q = none) :
    step { par := p, blk := b } =
      .next { par := p, blk := { b.setRequest q (some r) with events := rest } } := by
  simp [step, State.advance, head, State.present, free]

theorem step_of_reset {rest : List (Event p)} (head : b.events = .reset :: rest) :
    step { par := p, blk := b } = .next { par := p, blk := { b.reset with events := rest } } := by
  simp [step, State.advance, head]

/-- What becomes of the block where no port takes a turn: a request is stored, the reset input is applied, or
nothing moves. -/
def Block.unattended (b : Block p) : Block p :=
  match b.events with
  | .present q r :: rest => if (b.request q).isSome then b else { b.setRequest q (some r) with events := rest }
  | .reset :: rest => { b.reset with events := rest }
  | _ => b

theorem step_of_unselected (h : b.selected = none) :
    step { par := p, blk := b } = .next { par := p, blk := b.unattended } := by
  unfold Block.selected at h
  unfold Block.unattended
  split at h
  · next he => simp [step, State.advance, he, State.freeTurn, h]
  · next q r rest he =>
    cases hr : b.request q with
    | none => simp [step_of_present he hr, he, hr]
    | some r' =>
      simp only [hr, Option.isSome_some, if_true] at h
      simp [step, State.advance, he, State.present, hr, State.freeTurn, h]
  · cases h
  · next rest he => simp [step_of_reset he, he]

theorem Block.freePort_eq_none (h : ∀ q, b.enabled q = false) : b.freePort = none := by
  simp [Block.freePort, Block.enabledPorts, h, choosePort]

/-- A step of a selected port with a command in flight runs it on. -/
theorem step_of_busy {q : Port} (hsel : b.selected = some q) (hbusy : b.busy q = true) :
    step { par := p, blk := b } = exec (inFlight q) { par := p, blk := b.turnGiven.atTurn q } := by
  rw [step_of_selected hsel, State.takeTurn_of_busy (by simpa using hbusy)]

/-- Settles O7, by `step_of_busy` on PROD and on CONS. -/
theorem stepContinuesInFlight : Obligations.StepContinuesInFlight := fun _ _ =>
  ⟨fun hsel hphase => step_of_busy hsel (by simpa using hphase),
    fun hsel hphase => step_of_busy hsel (by simpa using hphase)⟩

/-- Settles O53, by the equations of a step without a command. -/
theorem stepsWithoutCommand : Obligations.StepsWithoutCommand := by
  intro p b
  refine ⟨fun q r rest => step_of_present, fun hevents hdisabled => ?_, fun q hsel free none => ?_⟩
  · have hsel : b.selected = none := by simp [Block.selected, hevents, Block.freePort_eq_none hdisabled]
    simp [step_of_unselected hsel, Block.unattended, hevents]
  · rw [step_of_selected hsel, State.takeTurn_of_void (by simpa using free) (by simpa using none)]

/-! ### STATUS (10_state.md R31): each field is what stands above the fields below it -/

theorem Block.status_state (b : Block p) : b.status.extractLsb 1 0 = b.state.code :=
  BitVec.extractLsb'_append_eq_right

theorem Block.status_faultCause (b : Block p) : b.status.extractLsb 4 2 = b.faultCause.code := by
  simp only [Block.status, BitVec.extractLsb]
  rw [BitVec.extractLsb'_append_eq_of_le (by decide)]
  exact BitVec.extractLsb'_append_eq_right

theorem Block.status_empty (b : Block p) : b.status.extractLsb 5 5 = BitVec.ofBool b.empty := by
  simp only [Block.status, BitVec.extractLsb]
  rw [BitVec.extractLsb'_append_eq_of_le (by decide), BitVec.extractLsb'_append_eq_of_le (by decide)]
  exact BitVec.extractLsb'_append_eq_right

theorem Block.status_full (b : Block p) : b.status.extractLsb 6 6 = BitVec.ofBool b.full := by
  simp only [Block.status, BitVec.extractLsb]
  rw [BitVec.extractLsb'_append_eq_of_le (by decide), BitVec.extractLsb'_append_eq_of_le (by decide),
    BitVec.extractLsb'_append_eq_of_le (by decide)]
  exact BitVec.extractLsb'_append_eq_right

theorem Block.status_faultPort (b : Block p) : b.status.extractLsb 8 7 = Port.code b.faultPort := by
  simp only [Block.status, BitVec.extractLsb]
  rw [BitVec.extractLsb'_append_eq_of_le (by decide), BitVec.extractLsb'_append_eq_of_le (by decide),
    BitVec.extractLsb'_append_eq_of_le (by decide), BitVec.extractLsb'_append_eq_of_le (by decide)]
  exact BitVec.extractLsb'_append_eq_right

theorem Block.status_reserved (b : Block p) : b.status.extractLsb 31 9 = 0 := by
  simp only [Block.status, BitVec.extractLsb]
  rw [BitVec.extractLsb'_append_eq_of_le (by decide), BitVec.extractLsb'_append_eq_of_le (by decide),
    BitVec.extractLsb'_append_eq_of_le (by decide), BitVec.extractLsb'_append_eq_of_le (by decide)]
  exact BitVec.extractLsb'_append_eq_left

/-- Settles O40: the fields of STATUS by `Block.status_state` to `Block.status_reserved`; every other observation
reads its register, and POP_DATA is guarded by `popWritten`. -/
theorem observationInterface : Obligations.ObservationInterface := fun _ b =>
  ⟨b.status_state, b.status_faultCause, b.status_empty, b.status_full, b.status_faultPort, b.status_reserved,
    rfl, rfl, rfl, rfl, rfl, rfl, rfl, rfl, rfl, fun h => if_pos h, fun h => if_neg (by simp [h])⟩

end Sys2Proof.Machine
end

section
/-! What the spec leaves unspecified is never read (10_state.md R33): two blocks that differ in it alone answer
alike. `Hidden` collects those registers, so that "the rest is equal" is one equation. -/

namespace Sys2Proof.Machine

variable {p : Params} {b c : Block p}

/-- The six latches and POP_DATA: what 10_state.md R21 leaves unspecified after reset. -/
structure Hidden (p : Params) where
  plW : Idx p
  plNW : Idx p
  plD : Elem p
  clR : Idx p
  clNR : Idx p
  clD : Elem p
  popData : Elem p

/-- The latches and POP_DATA of a block. -/
def Block.hidden (b : Block p) : Hidden p :=
  { plW := b.plW, plNW := b.plNW, plD := b.plD, clR := b.clR, clNR := b.clNR, clD := b.clD, popData := b.popData }

/-- The block with other latches and another POP_DATA. -/
def Block.setHidden (b : Block p) (h : Hidden p) : Block p :=
  { b with
    plW := h.plW, plNW := h.plNW, plD := h.plD, clR := h.clR, clNR := h.clNR, clD := h.clD, popData := h.popData }

/-- The rest of the block is equal. -/
theorem SameButUnspecified.eq_setHidden : SameButUnspecified b c → c = b.setHidden c.hidden
  | ⟨hrest, _⟩ => hrest

/-- A PUSH in flight has equal latches. -/
theorem SameButUnspecified.prodLatches : SameButUnspecified b c → b.phaseProd ≠ .idle →
    c.plW = b.plW ∧ c.plNW = b.plNW ∧ c.plD = b.plD
  | ⟨_, hprod, _⟩ => hprod

/-- A POP in flight has equal index latches. -/
theorem SameButUnspecified.consLatches : SameButUnspecified b c → b.phaseCons ≠ .idle →
    c.clR = b.clR ∧ c.clNR = b.clNR
  | ⟨_, _, hcons, _⟩ => hcons

/-- A POP that has read its slot has the element in CL_D on both. -/
theorem SameButUnspecified.readLatch : SameButUnspecified b c → b.phaseCons = .poP → c.clD = b.clD
  | ⟨_, _, _, hread, _⟩ => hread

/-- POP_DATA is equal once a POP has written it. -/
theorem SameButUnspecified.popData : SameButUnspecified b c → b.popWritten = true → c.popData = b.popData
  | ⟨_, _, _, _, hdata⟩ => hdata

/-! ### Fields and comparators that are equal on both -/

section
variable (h : SameButUnspecified b c)
include h

theorem SameButUnspecified.state : c.state = b.state := by rw [h.eq_setHidden]; rfl
theorem SameButUnspecified.turn : c.turn = b.turn := by rw [h.eq_setHidden]; rfl
theorem SameButUnspecified.phaseProd : c.phaseProd = b.phaseProd := by rw [h.eq_setHidden]; rfl
theorem SameButUnspecified.phaseCons : c.phaseCons = b.phaseCons := by rw [h.eq_setHidden]; rfl
theorem SameButUnspecified.popWritten : c.popWritten = b.popWritten := by rw [h.eq_setHidden]; rfl
theorem SameButUnspecified.storage : c.storage = b.storage := by rw [h.eq_setHidden]; rfl
theorem SameButUnspecified.events : c.events = b.events := by rw [h.eq_setHidden]; rfl
theorem SameButUnspecified.empty : c.empty = b.empty := by rw [h.eq_setHidden]; rfl
theorem SameButUnspecified.full : c.full = b.full := by rw [h.eq_setHidden]; rfl
theorem SameButUnspecified.busy (q : Port) : c.busy q = b.busy q := by rw [h.eq_setHidden]; cases q <;> rfl
theorem SameButUnspecified.request (q : Port) : c.request q = b.request q := by
  rw [h.eq_setHidden]; cases q <;> rfl
theorem SameButUnspecified.slotAddr (i : Idx p) : c.slotAddr i = b.slotAddr i := by rw [h.eq_setHidden]; rfl
theorem SameButUnspecified.acceptCheck (q : Port) (i : Instr) : c.acceptCheck q i = b.acceptCheck q i := by
  rw [h.eq_setHidden]; rfl

end

/-! ### Operations that touch no hidden register -/

/-- An operation that neither reads nor writes a hidden register, and starts no command, keeps the relation. -/
theorem SameButUnspecified.of_frame (h : SameButUnspecified b c) {b₁ c₁ : Block p}
    (hidden : b₁.hidden = b.hidden) (rest : c₁ = b₁.setHidden c.hidden)
    (prod : b₁.phaseProd = b.phaseProd ∨ b₁.phaseProd = .idle)
    (cons : b₁.phaseCons = b.phaseCons ∨ b₁.phaseCons = .idle)
    (written : b₁.popWritten = b.popWritten) : SameButUnspecified b₁ c₁ := by
  subst rest
  obtain ⟨-, hprod, hcons, hread, hdata⟩ := h
  simp only [Block.hidden, Hidden.mk.injEq] at hidden
  obtain ⟨h1, h2, h3, h4, h5, h6, h7⟩ := hidden
  refine ⟨rfl, ?_, ?_, ?_, ?_⟩ <;> simp only [Block.setHidden, Block.hidden, h1, h2, h3, h4, h5, h6, h7]
  · exact fun hne => hprod (prod.elim (fun e => e ▸ hne) fun e => absurd e hne)
  · exact fun hne => hcons (cons.elim (fun e => e ▸ hne) fun e => absurd e hne)
  · exact fun hp => hread (cons.elim (fun e => e ▸ hp) fun e => by simp [hp] at e)
  · exact fun hw => hdata (written ▸ hw)

section
variable (h : SameButUnspecified b c)
include h

theorem SameButUnspecified.turnGiven : SameButUnspecified b.turnGiven c.turnGiven := by
  unfold Block.turnGiven
  rw [h.events]
  split <;> exact h.of_frame rfl (by rw [h.eq_setHidden]; rfl) (.inl rfl) (.inl rfl) rfl

theorem SameButUnspecified.atTurn (q : Port) : SameButUnspecified (b.atTurn q) (c.atTurn q) :=
  h.of_frame rfl (by rw [h.eq_setHidden]; rfl) (.inl rfl) (.inl rfl) rfl

theorem SameButUnspecified.present (q : Port) (r : Option (Request p)) (rest : List (Event p)) :
    SameButUnspecified { b.setRequest q r with events := rest } { c.setRequest q r with events := rest } := by
  cases q <;> exact h.of_frame rfl (by rw [h.eq_setHidden]; rfl) (.inl rfl) (.inl rfl) rfl

theorem SameButUnspecified.take (q : Port) (r : Request p) : SameButUnspecified (b.take q r) (c.take q r) := by
  cases q <;> exact h.of_frame rfl (by rw [h.eq_setHidden]; rfl) (.inl rfl) (.inl rfl) rfl

theorem SameButUnspecified.complete (q : Port) (rsp : Rsp) :
    SameButUnspecified (b.complete q rsp) (c.complete q rsp) := by
  refine h.of_frame (by cases q <;> rfl) (by rw [h.eq_setHidden]; cases q <;> rfl) ?_ ?_ (by simp) <;>
    cases q <;> simp

theorem SameButUnspecified.raise (q : Port) (cause : Cause) (cmd : CmdWord) :
    SameButUnspecified (b.raise q cause cmd) (c.raise q cause cmd) := by
  refine h.of_frame (by cases q <;> rfl) (by rw [h.eq_setHidden]; cases q <;> rfl) ?_ ?_ (by simp) <;>
    cases q <;> simp

theorem SameButUnspecified.setup (cap : Nat) : SameButUnspecified (b.setup cap) (c.setup cap) :=
  h.of_frame rfl (by rw [h.eq_setHidden]; rfl) (.inl rfl) (.inl rfl) rfl

theorem SameButUnspecified.reportEmpty : SameButUnspecified b.reportEmpty c.reportEmpty := by
  rw [c.reportEmpty_eq, h.turn, h.empty]
  exact h.complete _ _

end

/-! ### The micro-steps of PUSH and POP -/

/-- What PUSH.W does to the block, with `m` for the storage it leaves. -/
def Block.stored (b : Block p) (m : Memory p) : Block p := { b with storage := m, phaseProd := .puP }

/-- What PUSH.P does to WR_IDX. -/
def Block.withWrIdx (b : Block p) (w : Idx p) : Block p := { b with wrIdx := w }

/-- What POP.R does with the element it reads. -/
def Block.latched (b : Block p) (d : Elem p) : Block p := { b with clD := d, phaseCons := .poP }

/-- What POP.P does to POP_DATA and RD_IDX. -/
def Block.popped (b : Block p) (d : Elem p) (r : Idx p) : Block p :=
  { b with popData := d, popWritten := true, rdIdx := r }

theorem Block.pushW_eq (b : Block p) : b.pushW = b.stored (b.storage.write (b.slotAddr b.plW) b.plD) := rfl

theorem Block.pushP_eq (b : Block p) : b.pushP = (b.withWrIdx b.plNW).complete .prod .doneTrue := rfl

theorem Block.popR_of_unwritten (h : b.storage.read (b.slotAddr b.clR) = none) :
    b.popR = .fault .unwrittenSlot := by
  simp [Block.popR, h]

theorem Block.popR_of_written {d : Elem p} (h : b.storage.read (b.slotAddr b.clR) = some d) :
    b.popR = .next (b.latched d) := by
  simp [Block.popR, h, Block.latched]

theorem Block.popP_eq (b : Block p) : b.popP = (b.popped b.clD b.clNR).complete .cons .doneTrue := rfl

section
variable (h : SameButUnspecified b c)
include h

theorem SameButUnspecified.stored (m : Memory p) (hphase : b.phaseProd ≠ .idle) :
    SameButUnspecified (b.stored m) (c.stored m) := by
  rw [h.eq_setHidden]
  obtain ⟨-, hprod, hcons, hread, hdata⟩ := h
  exact ⟨rfl, fun _ => hprod hphase, hcons, hread, hdata⟩

theorem SameButUnspecified.withWrIdx (w : Idx p) : SameButUnspecified (b.withWrIdx w) (c.withWrIdx w) :=
  h.of_frame rfl (by rw [h.eq_setHidden]; rfl) (.inl rfl) (.inl rfl) rfl

theorem SameButUnspecified.latched (d : Elem p) (hphase : b.phaseCons ≠ .idle) :
    SameButUnspecified (b.latched d) (c.latched d) := by
  rw [h.eq_setHidden]
  obtain ⟨-, hprod, hcons, -, hdata⟩ := h
  exact ⟨rfl, hprod, fun _ => hcons hphase, fun _ => rfl, hdata⟩

theorem SameButUnspecified.popped (d : Elem p) (r : Idx p) :
    SameButUnspecified (b.popped d r) (c.popped d r) := by
  rw [h.eq_setHidden]
  obtain ⟨-, hprod, hcons, hread, -⟩ := h
  exact ⟨rfl, hprod, hcons, hread, fun _ => rfl⟩

theorem SameButUnspecified.pushS : SameButUnspecified b.pushS c.pushS := by
  cases hfull : b.full
  · rw [b.pushS_of_not_full hfull, c.pushS_of_not_full (h.full.trans hfull), h.eq_setHidden]
    obtain ⟨-, -, hcons, hread, hdata⟩ := h
    exact ⟨rfl, fun _ => ⟨rfl, rfl, rfl⟩, hcons, hread, hdata⟩
  · rw [b.pushS_of_full hfull, c.pushS_of_full (h.full.trans hfull)]
    exact h.complete _ _

theorem SameButUnspecified.popS : SameButUnspecified b.popS c.popS := by
  cases hempty : b.empty
  · rw [b.popS_of_not_empty hempty, c.popS_of_not_empty (h.empty.trans hempty), h.eq_setHidden]
    obtain ⟨-, hprod, -, -, hdata⟩ := h
    exact ⟨rfl, hprod, fun _ => ⟨rfl, rfl⟩, nofun, hdata⟩
  · rw [b.popS_of_empty hempty, c.popS_of_empty (h.empty.trans hempty)]
    exact h.complete _ _

/-- PUSH.W reads PL_W and PL_D of the PUSH in flight, which are equal. -/
theorem SameButUnspecified.pushW (hphase : b.phaseProd = .puW) : SameButUnspecified b.pushW c.pushW := by
  obtain ⟨hw, -, hd⟩ := h.prodLatches (by simp [hphase])
  have hwrite : c.storage.write (c.slotAddr c.plW) c.plD = b.storage.write (b.slotAddr b.plW) b.plD := by
    rw [h.storage, h.slotAddr, hw, hd]
  rw [Block.pushW_eq, Block.pushW_eq, hwrite]
  exact h.stored _ (by simp [hphase])

/-- PUSH.P reads PL_NW of the PUSH in flight, which is equal. -/
theorem SameButUnspecified.pushP (hphase : b.phaseProd = .puP) : SameButUnspecified b.pushP c.pushP := by
  obtain ⟨-, hnext, -⟩ := h.prodLatches (by simp [hphase])
  rw [Block.pushP_eq, Block.pushP_eq, hnext]
  exact (h.withWrIdx _).complete _ _

/-- POP.P reads CL_NR and CL_D of the POP in flight, which are equal. -/
theorem SameButUnspecified.popP (hphase : b.phaseCons = .poP) : SameButUnspecified b.popP c.popP := by
  obtain ⟨-, hnext⟩ := h.consLatches (by simp [hphase])
  rw [Block.popP_eq, Block.popP_eq, hnext, h.readLatch hphase]
  exact (h.popped _ _).complete _ _

end

/-! ### Answers -/

/-- Two answers that differ in what is unspecified alone: related next states, or the same stop. -/
inductive SameAnswer (p : Params) : StateOutcome → StateOutcome → Prop where
  | next {b c : Block p} (same : SameButUnspecified b c) :
      SameAnswer p (.next { par := p, blk := b }) (.next { par := p, blk := c })
  | fault (f : Fault) : SameAnswer p (.fault f) (.fault f)

section
variable (h : SameButUnspecified b c)
include h

/-- Acceptance: the checks read nothing hidden. -/
theorem SameButUnspecified.accept (i : Instr) {first first' : Block p} (hfirst : SameButUnspecified first first') :
    SameButUnspecified (b.accept i first) (c.accept i first') := by
  by_cases hs : b.state = .halted
  · rw [b.accept_of_halted i _ hs, c.accept_of_halted i _ (h.state.trans hs), h.turn]
    exact h.complete _ _
  have hs' : c.state ≠ .halted := h.state ▸ hs
  have hcheck : c.acceptCheck c.turn i = b.acceptCheck b.turn i := by rw [h.turn, h.acceptCheck]
  by_cases hc : b.acceptCheck b.turn i = .none
  · rwa [Block.accept_of_clear _ hs hc, Block.accept_of_clear _ hs' (hcheck.trans hc)]
  · rw [Block.accept_of_check _ hs rfl hc, Block.accept_of_check _ hs' hcheck hc, h.turn]
    exact h.raise _ _ _

theorem SameButUnspecified.acceptIllegal (cmd : CmdWord) :
    SameButUnspecified (b.acceptIllegal cmd) (c.acceptIllegal cmd) := by
  unfold Block.acceptIllegal
  rw [h.state, h.turn]
  split
  · exact h.complete _ _
  · exact h.raise _ _ _

theorem SameButUnspecified.continuing (q : Port) {run run' : BlockOutcome p}
    (hrun : SameAnswer p run.toState run'.toState) :
    SameAnswer p (b.continuing q run).toState (c.continuing q run').toState := by
  unfold Block.continuing
  rw [h.state]
  split
  · exact .next (h.complete _ _)
  · exact hrun

/-- POP.R reads the slot of CL_R, which is equal, and overwrites CL_D. -/
theorem SameButUnspecified.popR (hphase : b.phaseCons = .poR) :
    SameAnswer p (b.popR).toState (c.popR).toState := by
  have hbusy : b.phaseCons ≠ .idle := by simp [hphase]
  obtain ⟨hindex, -⟩ := h.consLatches hbusy
  have hread : c.storage.read (c.slotAddr c.clR) = b.storage.read (b.slotAddr b.clR) := by
    rw [h.storage, h.slotAddr, hindex]
  cases hslot : b.storage.read (b.slotAddr b.clR) with
  | none =>
    rw [Block.popR_of_unwritten hslot, Block.popR_of_unwritten (hread.trans hslot)]
    exact .fault _
  | some d =>
    rw [Block.popR_of_written hslot, Block.popR_of_written (hread.trans hslot)]
    exact .next (h.latched d hbusy)

theorem SameButUnspecified.pushStep : SameAnswer p b.pushStep.toState c.pushStep.toState := by
  unfold Block.pushStep
  rw [h.turn, h.phaseProd]
  split
  · split
    · exact .next (h.accept _ h.pushS)
    · next hphase => exact h.continuing _ (.next (h.pushW hphase))
    · next hphase => exact h.continuing _ (.next (h.pushP hphase))
  · exact .next (h.accept _ h.pushS)

theorem SameButUnspecified.popStep : SameAnswer p b.popStep.toState c.popStep.toState := by
  unfold Block.popStep
  rw [h.turn, h.phaseCons]
  split
  · split
    · exact .next (h.accept _ h.popS)
    · next hphase => exact h.continuing _ (h.popR hphase)
    · next hphase => exact h.continuing _ (.next (h.popP hphase))
  · exact .next (h.accept _ h.popS)

/-- Every command answers alike. -/
theorem SameButUnspecified.exec (i : Instr) :
    SameAnswer p (exec i { par := p, blk := b }) (exec i { par := p, blk := c }) := by
  cases i with
  | setup cap => exact .next (h.accept _ (h.setup cap))
  | push => exact h.pushStep
  | pop => exact h.popStep
  | isEmpty => exact .next (h.accept _ h.reportEmpty)

theorem SameButUnspecified.acceptRequest (q : Port) (r : Request p) :
    SameAnswer p (State.accept { par := p, blk := b } q r) (State.accept { par := p, blk := c } q r) := by
  cases hd : decode r.cmd with
  | error e =>
    simp only [State.accept, hd]
    exact .next ((h.take q r).acceptIllegal r.cmd)
  | ok i =>
    simp only [State.accept, hd]
    exact (h.take q r).exec i

theorem SameButUnspecified.takeTurn (q : Port) :
    SameAnswer p (State.takeTurn { par := p, blk := b } q) (State.takeTurn { par := p, blk := c } q) := by
  cases hbusy : b.busy q
  · have hbusy' := (h.busy q).trans hbusy
    cases hreq : b.request q with
    | none =>
      rw [State.takeTurn_of_void hbusy hreq, State.takeTurn_of_void hbusy' ((h.request q).trans hreq)]
      exact .next h
    | some r =>
      rw [State.takeTurn_of_request hbusy hreq, State.takeTurn_of_request hbusy' ((h.request q).trans hreq)]
      exact h.acceptRequest q r
  · rw [State.takeTurn_of_busy hbusy, State.takeTurn_of_busy ((h.busy q).trans hbusy)]
    exact (h.atTurn q).exec _

theorem SameButUnspecified.selected : c.selected = b.selected := by
  rw [h.eq_setHidden]
  rfl

/-- Reset gives the hidden registers one value each. -/
theorem SameButUnspecified.reset (rest : List (Event p)) :
    SameButUnspecified { b.reset with events := rest } { c.reset with events := rest } := by
  rw [h.eq_setHidden]
  exact ⟨rfl, fun _ => ⟨rfl, rfl, rfl⟩, fun _ => ⟨rfl, rfl⟩, fun _ => rfl, fun _ => rfl⟩

theorem SameButUnspecified.unattended : SameButUnspecified b.unattended c.unattended := by
  unfold Block.unattended
  rw [h.events]
  split
  · next q r rest _ =>
    rw [h.request]
    split
    · exact h
    · exact h.present q _ rest
  · exact h.reset _
  · exact h

/-- Every step answers alike. -/
theorem SameButUnspecified.step :
    SameAnswer p (step { par := p, blk := b }) (step { par := p, blk := c }) := by
  cases hsel : b.selected with
  | none =>
    rw [step_of_unselected hsel, step_of_unselected (h.selected.trans hsel)]
    exact .next h.unattended
  | some q =>
    rw [step_of_selected hsel, step_of_selected (h.selected.trans hsel)]
    exact h.turnGiven.takeTurn q

theorem SameButUnspecified.observe (o : Obs) : b.observe o = c.observe o := by
  cases o with
  | popData =>
    change b.observePopData = c.observePopData
    unfold Block.observePopData
    rw [h.popWritten]
    split
    · next hw => rw [h.popData hw]
    · rfl
  | _ => rw [h.eq_setHidden]; rfl

end

theorem SameAnswer.of_next {b' : Block p} {o : StateOutcome} (h : SameAnswer p (.next { par := p, blk := b' }) o) :
    ∃ c', o = .next { par := p, blk := c' } ∧ SameButUnspecified b' c' := by
  cases h with
  | next same => exact ⟨_, rfl, same⟩

theorem SameAnswer.fault_iff {o o' : StateOutcome} (h : SameAnswer p o o') (f : Fault) :
    o = .fault f ↔ o' = .fault f := by
  cases h with
  | next => simp
  | fault => rfl

/-- Settles O52: every step answers alike (`SameButUnspecified.step`), and so does every observation. -/
theorem latchesUnobservable : Obligations.LatchesUnobservable := fun _ _ _ h =>
  ⟨fun _ hb => (hb ▸ h.step).of_next, h.step.fault_iff, h.observe⟩

end Sys2Proof.Machine
end

section
/-! The slots of the storage region (20_memory.md R51 to R54): their addresses, what a write to one changes, and
which step writes. -/

namespace Sys2Proof.Machine

variable {p : Params} {b b' : Block p} {q : Port}

/-- Settles O37, by `Memory.read_write_same` and `Memory.read_write_ne`. -/
theorem readAfterWrite : Obligations.ReadAfterWrite := fun _ m a v =>
  ⟨m.read_write_same a v, fun _ hne => Memory.read_write_ne hne m v⟩

/-- The address generator of 20_memory.md R51: zero extension to AW bits is absorbed by the sum modulo 2^AW. -/
theorem Block.slotAddr_toNat (b : Block p) (i : Idx p) :
    (b.slotAddr i).toNat = (b.base.toNat + (i.toNat &&& b.mask.toNat)) % 2 ^ p.aw := by
  rw [Block.slotAddr, BitVec.toNat_add, BitVec.toNat_setWidth, BitVec.toNat_and, Nat.add_mod_mod]

/-- The slot of an index in range needs no masking. -/
theorem Block.Inv.slotAddr_toNat (hb : b.Inv) {i : Idx p} (hi : i.toNat ≤ b.mask.toNat) :
    (b.slotAddr i).toNat = (b.base.toNat + i.toNat) % 2 ^ p.aw := by
  obtain ⟨k, -, hk⟩ := hb.capacity
  rw [b.slotAddr_toNat, ← BitVec.toNat_and, Block.and_mask_of_le hk hi]

/-- Settles O35: the addresses by `Block.slotAddr_toNat`, that they are distinct by `Block.Inv.slotAddr_inj`. -/
theorem slotAddressesDistinct : Obligations.SlotAddressesDistinct := fun _ b i _ =>
  ⟨b.slotAddr_toNat i, fun hb hi hj => ⟨hb.slotAddr_toNat hi, hb.slotAddr_inj hi hj⟩⟩

/-- Who writes the storage (20_memory.md R53). -/
theorem MicroStep.storage_cases (m : MicroStep b q b') :
    (q = .prod ∧ b.phaseProd = .puW ∧ b.state ≠ .halted ∧
        b'.storage = b.storage.write (b.slotAddr b.plW) b.plD) ∨
      b'.storage = b.storage := by
  cases m with
  | pushW phase live => exact .inl ⟨rfl, phase, live, rfl⟩
  | pushS => exact .inr (by rw [Block.pushS_frame]; rfl)
  | popS => exact .inr (by rw [Block.popS_frame]; rfl)
  | void | setup | pushP | popR | popP => exact .inr rfl
  | refused | violation | isEmpty | abandon => exact .inr (by simp)

/-- Settles O38: of the step cases a turn alone writes the storage, and of the turns PUSH.W alone
(`MicroStep.storage_cases`), whose write changes one slot (`Memory.read_write_ne`). -/
theorem onlyPushWritesStorage : Obligations.OnlyPushWritesStorage := by
  intro p b b' a h hne
  rcases (stepCase_of_step h).reset_or_turn_or_quiet with
    ⟨rest, -, rfl⟩ | ⟨q, rest, n, hsel, -, m⟩ | ⟨-, -, hb'⟩
  · exact absurd rfl hne
  · rcases m.storage_cases with ⟨rfl, hphase, hlive, hwrite⟩ | hsame
    · have hwrite : b'.storage = b.storage.write (b.slotAddr b.plW) b.plD := hwrite
      rw [hwrite] at hne ⊢
      obtain rfl : a = b.slotAddr b.plW := by
        by_contra ha
        exact hne (Memory.read_write_ne ha _ _)
      exact ⟨hsel, hphase, hlive, rfl, Memory.read_write_same _ _ _⟩
    · exact absurd (congrArg (Memory.read · a) hsame) hne
  · rw [hb'] at hne
    exact absurd rfl hne

end Sys2Proof.Machine
end

section
/-! The live slots under the invariant (20_memory.md R57, R68): they are written, a POP in flight reads one of
them, and a PUSH in flight writes none of them. -/

namespace Sys2Proof.Machine

variable {p : Params} {b : Block p} {i : Idx p}

theorem Block.Live.le_mask (h : b.Live i) : i.toNat ≤ b.mask.toNat := by
  obtain ⟨k, -, rfl⟩ := h
  exact b.liveIdx_le_mask k

/-- A live slot has been written (20_memory.md R57). -/
theorem Block.Inv.read_live_ne_none (hb : b.Inv) (h : b.Live i) : b.storage.read (b.slotAddr i) ≠ none := by
  obtain ⟨k, hk, rfl⟩ := h
  exact hb.liveWritten _ (List.mem_map_of_mem (List.mem_range.2 hk))

/-- WR_IDX is no live index. -/
theorem Block.Inv.not_live_wrIdx (hb : b.Inv) : ¬ b.Live b.wrIdx := by
  rintro ⟨k, hk, hwr⟩
  exact hb.liveIdx_ne_wrIdx hk hwr.symm

/-- A POP in flight addresses the oldest element (20_memory.md R68, item 2). -/
theorem Block.Inv.live_clR (hb : b.Inv) (hpop : b.phaseCons ≠ .idle) : b.Live b.clR := by
  obtain ⟨hclR, -, hempty⟩ := hb.popInFlight hpop
  have hpos : b.occupancy ≠ 0 := fun h => by simp [hb.empty_iff_occupancy.2 h] at hempty
  exact ⟨0, Nat.pos_of_ne_zero hpos, hclR.trans hb.liveIdx_zero.symm⟩

/-- The slot of a PUSH in flight is no live slot's (20_memory.md R68, item 1). -/
theorem Block.Inv.slotAddr_plW_ne_of_live (hb : b.Inv) (hpush : b.phaseProd ≠ .idle) (hi : b.Live i) :
    b.slotAddr b.plW ≠ b.slotAddr i := by
  obtain ⟨hplW, -, -⟩ := hb.pushInFlight hpush
  rw [hplW]
  intro haddr
  obtain rfl := hb.slotAddr_inj hb.wrRange hi.le_mask haddr
  exact hb.not_live_wrIdx hi

/-- Settles O46: items 1 and 2 of 20_memory.md R68 are `Block.Inv.slotAddr_plW_ne_of_live` and
`Block.Inv.live_clR`; item 3 is item 1 at the live index of item 2. -/
theorem noConflictingSlotAccesses : Obligations.NoConflictingSlotAccesses := fun _ _ hb =>
  ⟨fun hpush _ => hb.slotAddr_plW_ne_of_live hpush, hb.live_clR,
    fun hpush hpop => hb.slotAddr_plW_ne_of_live hpush (hb.live_clR hpop)⟩

end Sys2Proof.Machine
end

section
/-! Where a command answers a next state: everywhere but at a POP.R of a slot never written (log 10), which the
invariant excludes (20_memory.md R57). -/

namespace Sys2Proof.Machine

variable {p : Params} {b : Block p}

/-- The next micro-step of POP is a POP.R that is not abandoned, of a slot that no PUSH.W has written. -/
def Block.ReadsUnwritten (b : Block p) : Prop :=
  b.turn = .cons ∧ b.phaseCons = .poR ∧ b.state ≠ .halted ∧ b.storage.read (b.slotAddr b.clR) = none

/-- A micro-step of a command in flight answers where its effects do: abandoning always answers. -/
theorem Block.continuing_answers (q : Port) {run : BlockOutcome p} (h : b.state ≠ .halted → ∃ b', run = .next b') :
    ∃ b', b.continuing q run = .next b' := by
  unfold Block.continuing
  split
  · exact ⟨_, rfl⟩
  · next hs => exact h hs

theorem Block.pushStep_answers (b : Block p) : ∃ b', b.pushStep = .next b' := by
  unfold Block.pushStep
  split
  · split
    · exact ⟨_, rfl⟩
    · exact Block.continuing_answers _ fun _ => ⟨_, rfl⟩
    · exact Block.continuing_answers _ fun _ => ⟨_, rfl⟩
  · exact ⟨_, rfl⟩

theorem Block.popStep_of_readsUnwritten (h : b.ReadsUnwritten) : b.popStep = .fault .unwrittenSlot := by
  obtain ⟨hturn, hphase, hlive, hslot⟩ := h
  simp [Block.popStep, hturn, hphase, Block.continuing, hlive, Block.popR_of_unwritten hslot]

theorem Block.popStep_answers (h : ¬ b.ReadsUnwritten) : ∃ b', b.popStep = .next b' := by
  unfold Block.popStep
  split
  · next hturn =>
    split
    · exact ⟨_, rfl⟩
    · next hphase =>
      refine Block.continuing_answers _ fun hlive => ?_
      obtain ⟨d, hd⟩ := Option.ne_none_iff_exists'.1 fun hslot => h ⟨hturn, hphase, hlive, hslot⟩
      exact ⟨_, Block.popR_of_written hd⟩
    · exact Block.continuing_answers _ fun _ => ⟨_, rfl⟩
  · exact ⟨_, rfl⟩

theorem exec_pop_of_readsUnwritten (h : b.ReadsUnwritten) :
    exec .pop { par := p, blk := b } = .fault .unwrittenSlot :=
  congrArg BlockOutcome.toState (Block.popStep_of_readsUnwritten h)

theorem exec_answers {i : Instr} (h : i = .pop → ¬ b.ReadsUnwritten) :
    ∃ b', exec i { par := p, blk := b } = .next { par := p, blk := b' } := by
  cases i with
  | setup cap => exact ⟨_, rfl⟩
  | push =>
    obtain ⟨b', hb'⟩ := b.pushStep_answers
    exact ⟨b', congrArg BlockOutcome.toState hb'⟩
  | pop =>
    obtain ⟨b', hb'⟩ := Block.popStep_answers (h rfl)
    exact ⟨b', congrArg BlockOutcome.toState hb'⟩
  | isEmpty => exact ⟨_, rfl⟩

/-- Settles O29: at a POP.R of an unwritten slot `exec` faults (`exec_pop_of_readsUnwritten`), and everywhere
else it answers a next state (`exec_answers`). -/
theorem faultOnlyOnUnwrittenSlot : Obligations.FaultOnlyOnUnwrittenSlot := by
  intro p b i f
  constructor
  · intro hf
    by_cases hu : i = .pop ∧ b.ReadsUnwritten
    · obtain ⟨rfl, hread⟩ := hu
      rw [exec_pop_of_readsUnwritten hread] at hf
      cases hf
      obtain ⟨hturn, hphase, hlive, hslot⟩ := hread
      exact ⟨rfl, hturn, hphase, hlive, hslot, rfl⟩
    · obtain ⟨b', hnext⟩ := exec_answers (not_and.1 hu)
      cases hnext.symm.trans hf
  · rintro ⟨rfl, hturn, hphase, hlive, hslot, rfl⟩
    exact exec_pop_of_readsUnwritten ⟨hturn, hphase, hlive, hslot⟩

/-! ### Under the invariant -/

/-- The slot of a POP in flight is live, so it has been written. -/
theorem Block.Inv.not_readsUnwritten (hb : b.Inv) : ¬ b.ReadsUnwritten := by
  rintro ⟨-, hphase, -, hslot⟩
  exact hb.read_live_ne_none (hb.live_clR (by simp [hphase])) hslot

theorem Block.Inv.turnGiven (hb : b.Inv) : b.turnGiven.Inv := by
  unfold Block.turnGiven
  split <;> exact hb.of_sameControl rfl rfl rfl rfl rfl (.inl rfl) (.inl rfl)

/-- A turn continues the command in flight, or accepts the request presented, or does nothing. -/
theorem Block.Inv.takeTurn_answers (hb : b.Inv) (q : Port) :
    ∃ b', State.takeTurn { par := p, blk := b } q = .next { par := p, blk := b' } := by
  cases hbusy : b.busy q with
  | true =>
    rw [State.takeTurn_of_busy hbusy]
    exact exec_answers fun _ => (hb.atTurn q).not_readsUnwritten
  | false =>
    cases hreq : b.request q with
    | none => exact ⟨b, State.takeTurn_of_void hbusy hreq⟩
    | some r =>
      obtain ⟨b', haccept, -⟩ := State.accept_cases hbusy hreq
      exact ⟨b', (State.takeTurn_of_request hbusy hreq).trans haccept⟩

/-- Settles O45: a step is the turn of the selected port (`Block.Inv.takeTurn_answers`) or, where none is
selected, an event that always answers (`step_of_unselected`). -/
theorem stepAlwaysAnswers : Obligations.StepAlwaysAnswers := by
  intro p b hb
  cases hsel : b.selected with
  | none => exact ⟨b.unattended, step_of_unselected hsel⟩
  | some q =>
    rw [step_of_selected hsel]
    exact hb.turnGiven.takeTurn_answers q

end Sys2Proof.Machine
end

section
/-! The command encoding of 30_encoding.md R71, R72 and R74: a word is its three fields, and the decoder and the
encoder are one relation between words and well-formed commands (`decode_eq_ok_iff`). -/

namespace Sys2Proof

variable {w : CmdWord} {i : Instr}

/-! ### The fields of a word -/

/-- The three fields of 30_encoding.md R71 are the whole word. -/
theorem append_fields (w : CmdWord) : capField w ++ rsvField w ++ opField w = w := by
  have hhigh : capField w ++ rsvField w = w.extractLsb' 2 30 :=
    BitVec.extractLsb'_append_extractLsb'_eq_extractLsb' rfl
  rw [hhigh]
  exact BitVec.extractLsb'_append_extractLsb'

@[simp] theorem opField_append (c : BitVec 24) (r : BitVec 6) (o : BitVec 2) : opField (c ++ r ++ o) = o :=
  BitVec.extractLsb'_append_eq_right

@[simp] theorem rsvField_append (c : BitVec 24) (r : BitVec 6) (o : BitVec 2) : rsvField (c ++ r ++ o) = r :=
  (BitVec.extractLsb'_append_eq_of_le (by decide)).trans BitVec.extractLsb'_append_eq_right

@[simp] theorem capField_append (c : BitVec 24) (r : BitVec 6) (o : BitVec 2) : capField (c ++ r ++ o) = c :=
  (BitVec.extractLsb'_append_eq_of_le (by decide)).trans BitVec.extractLsb'_append_eq_left

/-- A word is given by its fields. -/
theorem append_eq_iff (c : BitVec 24) (r : BitVec 6) (o : BitVec 2) :
    c ++ r ++ o = w ↔ rsvField w = r ∧ opField w = o ∧ capField w = c := by
  constructor
  · rintro rfl
    simp
  · rintro ⟨rfl, rfl, rfl⟩
    exact append_fields w

/-- The word of a command is the one with its codes in the fields. -/
theorem encode_eq_iff : encode i = w ↔ rsvField w = 0 ∧ opField w = opCode i ∧ capField w = capCode i :=
  append_eq_iff _ _ _

@[simp] theorem rsvField_encode (i : Instr) : rsvField (encode i) = 0 := rsvField_append _ _ _

@[simp] theorem opField_encode (i : Instr) : opField (encode i) = opCode i := opField_append _ _ _

@[simp] theorem capField_encode (i : Instr) : capField (encode i) = capCode i := capField_append _ _ _

/-! ### The words of 30_encoding.md R78 -/

theorem encode_push : encode .push = 0x00000001 := rfl

theorem encode_pop : encode .pop = 0x00000002 := rfl

theorem encode_isEmpty : encode .isEmpty = 0x00000003 := rfl

/-- SETUP's word is its capacity, shifted above RSV and OP. -/
theorem encode_setup (cap : Nat) : encode (.setup cap) = BitVec.ofNat 32 cap <<< 8 := by
  have hword : (encode (.setup cap)).toNat = cap % 2 ^ 24 * 2 ^ 6 * 2 ^ 2 := by
    refine (BitVec.toNat_append (BitVec.ofNat 24 cap ++ 0#6) 0#2).trans ?_
    rw [BitVec.toNat_append]
    simp [Nat.shiftLeft_eq]
  apply BitVec.eq_of_toNat_eq
  rw [hword, BitVec.toNat_shiftLeft, BitVec.toNat_ofNat, Nat.shiftLeft_eq]
  omega

/-! ### The decoder -/

/-- A capacity of 24 bits comes back from CAPF. -/
theorem capCode_setup_toNat {cap : Nat} (h : (Instr.setup cap).wf = true) :
    (capCode (.setup cap)).toNat = cap :=
  Nat.mod_eq_of_lt (of_decide_eq_true h)

theorem decode_encode (h : i.wf = true) : decode (encode i) = .ok i := by
  cases i with
  | setup cap => simp [decode, opCode, capCode_setup_toNat h]
  | push | pop | isEmpty => simp [decode, opCode, capCode, decodePlain]

/-- A command without operand decodes only from its own word, because CAPF must be 0. -/
theorem encode_of_decodePlain (j : Instr) (hrsv : rsvField w = 0) (hop : opField w = opCode j)
    (hcode : capCode j = 0) (hwf : j.wf = true) (h : decodePlain j w = .ok i) :
    encode i = w ∧ i.wf = true := by
  unfold decodePlain at h
  split at h
  · next hcap =>
    cases h
    exact ⟨encode_eq_iff.2 ⟨hrsv, hop, hcap.trans hcode.symm⟩, hwf⟩
  · cases h

theorem encode_of_decode (h : decode w = .ok i) : encode i = w ∧ i.wf = true := by
  unfold decode at h
  split at h
  · cases h
  next hrsv =>
  have hrsv : rsvField w = 0 := not_not.1 hrsv
  split at h
  · next hop =>
    cases h
    exact ⟨encode_eq_iff.2 ⟨hrsv, hop, by simp [capCode]⟩, decide_eq_true (capField w).isLt⟩
  split at h
  · next hop => exact encode_of_decodePlain .push hrsv hop rfl rfl h
  split at h
  · next hop => exact encode_of_decodePlain .pop hrsv hop rfl rfl h
  · next h0 h1 h2 =>
    have hop : opField w = 3 := by bv_omega
    exact encode_of_decodePlain .isEmpty hrsv hop rfl rfl h

/-- The decoder inverts the encoder on well-formed commands, and decodes no other word. -/
theorem decode_eq_ok_iff : decode w = .ok i ↔ encode i = w ∧ i.wf = true :=
  ⟨encode_of_decode, fun ⟨hw, hi⟩ => hw ▸ decode_encode hi⟩

/-- A word decodes to a SETUP exactly where RSV and OP are 0: CAPF is free. -/
theorem decode_setup_iff : (∃ cap, decode w = .ok (.setup cap)) ↔ rsvField w = 0 ∧ opField w = 0 := by
  constructor
  · rintro ⟨cap, h⟩
    obtain ⟨rfl, -⟩ := encode_of_decode h
    exact ⟨rsvField_encode _, opField_encode _⟩
  · rintro ⟨hrsv, hop⟩
    exact ⟨(capField w).toNat, by simp [decode, hrsv, hop]⟩

/-- Every 2-bit number is the OP code of a command with CAPF = 0. -/
theorem exists_instr_of_op (o : BitVec 2) : ∃ i : Instr, opCode i = o ∧ capCode i = 0 ∧ i.wf = true := by
  have hcases : o = 0 ∨ o = 1 ∨ o = 2 ∨ o = 3 := by bv_omega
  obtain rfl | rfl | rfl | rfl := hcases
  · exact ⟨.setup 0, rfl, rfl, rfl⟩
  · exact ⟨.push, rfl, rfl, rfl⟩
  · exact ⟨.pop, rfl, rfl, rfl⟩
  · exact ⟨.isEmpty, rfl, rfl, rfl⟩

/-- The legality formula of 30_encoding.md R74. -/
theorem exists_decode_iff :
    (∃ i, decode w = .ok i) ↔ rsvField w = 0 ∧ (opField w = 0 ∨ capField w = 0) := by
  constructor
  · rintro ⟨i, h⟩
    obtain ⟨rfl, -⟩ := encode_of_decode h
    refine ⟨rsvField_encode i, ?_⟩
    rw [opField_encode, capField_encode]
    cases i with
    | setup cap => exact .inl rfl
    | push | pop | isEmpty => exact .inr rfl
  · rintro ⟨hrsv, hop | hcap⟩
    · obtain ⟨cap, h⟩ := decode_setup_iff.2 ⟨hrsv, hop⟩
      exact ⟨_, h⟩
    · obtain ⟨i, hop, hcode, hwf⟩ := exists_instr_of_op (opField w)
      exact ⟨i, decode_eq_ok_iff.2 ⟨encode_eq_iff.2 ⟨hrsv, hop.symm, hcap.trans hcode.symm⟩, hwf⟩⟩

theorem exists_error_of_illegal (h : ∀ i, decode w ≠ .ok i) : ∃ e, decode w = .error e := by
  cases hd : decode w with
  | error e => exact ⟨e, rfl⟩
  | ok i => exact absurd hd (h i)

/-! ### The opcode map -/

/-- SETUP's row looks at RSV and OP only. -/
theorem and_setupMask_eq_zero_iff : w &&& 0x000000FF = 0 ↔ rsvField w = 0 ∧ opField w = 0 := by
  have hmask : (0x000000FF : CmdWord) = 0#24 ++ BitVec.allOnes 6 ++ BitVec.allOnes 2 := by decide
  have hand : w &&& 0x000000FF = 0#24 ++ rsvField w ++ opField w := by
    conv_lhs => rw [← append_fields w, hmask, BitVec.and_append, BitVec.and_append]
    rw [BitVec.and_allOnes, BitVec.and_allOnes, BitVec.and_zero]
  rw [hand, append_eq_iff]
  simp [rsvField, opField, capField, eq_comm]

/-- A row with every bit in its mask is matched by one word: the one of its command. -/
theorem and_fullMask_eq_iff (h : i.wf = true) : w &&& 0xFFFFFFFF = encode i ↔ decode w = .ok i := by
  rw [show (0xFFFFFFFF : CmdWord) = BitVec.allOnes 32 from rfl, BitVec.and_allOnes, decode_eq_ok_iff, eq_comm]
  simp [h]

theorem Instr.exists_iff {P : Instr → Prop} :
    (∃ i, P i) ↔ (∃ cap, P (.setup cap)) ∨ P .push ∨ P .pop ∨ P .isEmpty := by
  constructor
  · rintro ⟨i, hi⟩
    cases i with
    | setup cap => exact .inl ⟨cap, hi⟩
    | push => exact .inr (.inl hi)
    | pop => exact .inr (.inr (.inl hi))
    | isEmpty => exact .inr (.inr (.inr hi))
  · rintro (⟨cap, h⟩ | h | h | h) <;> exact ⟨_, h⟩

/-- A word matches a row of the opcode map exactly where it decodes to a command of that row's name. -/
theorem covers_iff : ∀ r ∈ opRows, r.covers w = true ↔ ∃ i, decode w = .ok i ∧ r.mnemonic = i.mnemonic := by
  simp only [opRows, List.forall_mem_cons, OpRow.covers, beq_iff_eq, Instr.exists_iff, Instr.mnemonic]
  refine ⟨?setup, ?push, ?pop, ?isEmpty, nofun⟩
  case setup => simpa using and_setupMask_eq_zero_iff.trans decode_setup_iff.symm
  case push => simpa [encode_push] using and_fullMask_eq_iff (i := .push) rfl
  case pop => simpa [encode_pop] using and_fullMask_eq_iff (i := .pop) rfl
  case isEmpty => simpa [encode_isEmpty] using and_fullMask_eq_iff (i := .isEmpty) rfl

theorem covers_iff_of_decode (h : decode w = .ok i) :
    ∀ r ∈ opRows, r.covers w = true ↔ r.mnemonic = i.mnemonic := by
  intro r hr
  simp [covers_iff r hr, h]

theorem not_covers_of_illegal (h : ∀ i, decode w ≠ .ok i) : ∀ r ∈ opRows, r.covers w = false := by
  intro r hr
  rw [← Bool.not_eq_true, covers_iff r hr]
  rintro ⟨i, hi, -⟩
  exact h i hi

/-- Settles O1: `decode_encode`. -/
theorem decodeOfEncode : Obligations.DecodeOfEncode := fun _ => decode_encode

/-- Settles O2: `encode_of_decode`. -/
theorem encodeOfDecode : Obligations.EncodeOfDecode := fun _ _ => encode_of_decode

/-- Settles O4: each word by evaluation of the decoder. -/
theorem encodingVectors : Obligations.EncodingVectors := by
  unfold Obligations.EncodingVectors
  decide

end Sys2Proof
end

section
/-! What 30_encoding.md says of the command words at the block: an illegal word (R74), the lines of R78, and the
port permissions (R75). -/

namespace Sys2Proof.Machine

variable {p : Params} {b : Block p} {q : Port}

/-- An illegal word taken from an idle port is a fault entry (60_exceptions.md R142, check 2). -/
theorem step_of_illegal {r : Request p} (hsel : b.selected = some q) (free : b.busy q = false)
    (req : b.request q = some r) (live : b.state ≠ .halted) (illegal : ∀ i, decode r.cmd ≠ .ok i) :
    step { par := p, blk := b } =
      .next { par := p, blk := (b.turnGiven.take q r).raise q .illegalEncoding r.cmd } := by
  obtain ⟨e, he⟩ := exists_error_of_illegal illegal
  rw [step_of_selected hsel, State.takeTurn_of_request (by simpa using free) (by simpa using req)]
  simp [State.accept, he, Block.acceptIllegal, live]

/-- Settles O3: the formula is `exists_decode_iff`, the rows are `covers_iff`, and the fault is that of
`step_of_illegal`. -/
theorem legalityOfCommandWords : Obligations.LegalityOfCommandWords :=
  ⟨fun _ => exists_decode_iff, fun _ _ => covers_iff_of_decode, fun _ => not_covers_of_illegal,
    fun _ _ _ _ hsel free req live illegal =>
      ⟨_, step_of_illegal hsel free req live illegal, by simp, by simp, by simp, by simp⟩⟩

/-- Settles O5: the CMD of a line is the word of its command (`encode_setup`, `encode_push`, ...), and an operand
that fits the operand bus is kept by it. -/
theorem assembledLines : Obligations.AssembledLines := by
  rintro p ⟨port, form⟩ h
  have fits : ∀ {n : Nat}, n < 2 ^ p.opndW → (BitVec.ofNat p.opndW n).toNat = n := Nat.mod_eq_of_lt
  cases form with
  | setup cap base =>
    simp only [Line.wf, Bool.and_eq_true, decide_eq_true_eq] at h
    obtain ⟨⟨-, hcap⟩, hbase⟩ := h
    have hcmd := decode_encode (i := .setup cap) (decide_eq_true hcap)
    rw [encode_setup] at hcmd
    exact ⟨hcmd, fits hbase⟩
  | push value =>
    simp only [Line.wf, Bool.and_eq_true, decide_eq_true_eq] at h
    exact ⟨decode_encode (i := .push) rfl, fits h.2⟩
  | pop => exact ⟨decode_encode (i := .pop) rfl, rfl⟩
  | isEmpty => exact ⟨decode_encode (i := .isEmpty) rfl, rfl⟩
  | word cmd opnd => exact ⟨rfl, fits (of_decide_eq_true h)⟩

/-! ### Port permissions -/

/-- The first micro-step of a command, which acceptance runs where no check applies (60_exceptions.md R142). -/
def Block.firstStep (b : Block p) : Instr → Block p
  | .setup cap => b.setup cap
  | .push => b.pushS
  | .pop => b.popS
  | .isEmpty => b.reportEmpty

theorem Block.pushStep_of_free (free : b.busy b.turn = false) : b.pushStep = .next (b.accept .push b.pushS) := by
  unfold Block.pushStep
  split
  · next hturn =>
    have hphase : b.phaseProd = .idle := by simpa [hturn] using free
    rw [hphase]
  · rfl

theorem Block.popStep_of_free (free : b.busy b.turn = false) : b.popStep = .next (b.accept .pop b.popS) := by
  unfold Block.popStep
  split
  · next hturn =>
    have hphase : b.phaseCons = .idle := by simpa [hturn] using free
    rw [hphase]
  · rfl

/-- On an idle port a command is accepted. -/
theorem exec_of_free (i : Instr) (free : b.busy b.turn = false) :
    exec i { par := p, blk := b } = .next { par := p, blk := b.accept i (b.firstStep i) } := by
  cases i with
  | setup cap | isEmpty => rfl
  | push => exact congrArg BlockOutcome.toState (Block.pushStep_of_free free)
  | pop => exact congrArg BlockOutcome.toState (Block.popStep_of_free free)

/-- The first micro-step of a command does not halt the block. -/
theorem Block.firstStep_state_ne_halted (live : b.state ≠ .halted) (i : Instr) :
    (b.firstStep i).state ≠ .halted := by
  cases i with
  | setup cap => simp [Block.firstStep, Block.setup]
  | push => rw [Block.firstStep, Block.pushS_frame]; exact live
  | pop => rw [Block.firstStep, Block.popS_frame]; exact live
  | isEmpty => simpa [Block.firstStep] using live

/-- The checks answer WRONG_PORT exactly where the table of 30_encoding.md R75 does not permit the command. -/
theorem Block.acceptCheck_eq_wrongPort (b : Block p) (q : Port) (i : Instr) :
    b.acceptCheck q i = .wrongPort ↔ permitted i q = false := by
  have hother : b.setupCheck i ≠ .wrongPort := by
    cases i with
    | setup cap => simp only [Block.setupCheck]; split_ifs <;> decide
    | push | pop | isEmpty => simp [Block.setupCheck]
  unfold Block.acceptCheck
  cases permitted i q with
  | false => simp
  | true => split_ifs <;> simp_all

/-- Acceptance records a WRONG_PORT fault exactly where the check answers it. -/
theorem Block.accept_wrongPort_iff (live : b.state ≠ .halted) (i : Instr) :
    (b.accept i (b.firstStep i)).state = .halted ∧ (b.accept i (b.firstStep i)).faultCause = .wrongPort ∧
        (b.accept i (b.firstStep i)).faultPort = some b.turn ∧
        (b.accept i (b.firstStep i)).faultCmd = encode i ↔
      permitted i b.turn = false := by
  rw [← b.acceptCheck_eq_wrongPort]
  rcases b.accept_cases i (b.firstStep i) with ⟨hs, -⟩ | ⟨-, -, he⟩ | ⟨-, hc, he⟩
  · exact absurd hs live
  · simp [he]
  · simp [he, hc, Block.firstStep_state_ne_halted live]

/-- Settles O17: an idle port accepts (`exec_of_free`), and acceptance faults with WRONG_PORT exactly where the
command is not permitted (`Block.accept_wrongPort_iff`), which is the table of 30_encoding.md R75. -/
theorem portPermissions : Obligations.PortPermissions := by
  intro p b i live free
  refine ⟨_, exec_of_free i free, (Block.accept_wrongPort_iff live i).trans ?_⟩
  cases i with
  | setup cap => exact beq_eq_false_iff_ne
  | push => exact beq_eq_false_iff_ne
  | pop => exact beq_eq_false_iff_ne
  | isEmpty => cases b.turn <;> simp [permitted]

end Sys2Proof.Machine
end

section
/-! The account of a port's requests (30_encoding.md R76): presented, in flight or answered. Taking a request takes
one off, the first micro-step of its command adds one, and the micro-steps after it move none. -/

namespace Sys2Proof.Machine

variable {p : Params} {b b' : Block p} {q : Port}

/-! ### Phases and accessors -/

@[simp] theorem ProdPhase.puW_bne_idle : (ProdPhase.puW != .idle) = true := rfl
@[simp] theorem ProdPhase.puP_bne_idle : (ProdPhase.puP != .idle) = true := rfl
@[simp] theorem ConsPhase.poR_bne_idle : (ConsPhase.poR != .idle) = true := rfl
@[simp] theorem ConsPhase.poP_bne_idle : (ConsPhase.poP != .idle) = true := rfl

@[simp] theorem Block.request_take (b : Block p) (q q' : Port) (r : Request p) :
    (b.take q r).request q' = if q = q' then none else b.request q' :=
  (Block.request_atTurn (b.setRequest q none) q q').trans (b.request_setRequest q q' none)

@[simp] theorem Block.busy_take (b : Block p) (q q' : Port) (r : Request p) :
    (b.take q r).busy q' = b.busy q' :=
  (Block.busy_atTurn (b.setRequest q none) q q').trans (b.busy_setRequest q q' none)

@[simp] theorem Block.request_complete (b : Block p) (q q' : Port) (rsp : Rsp) :
    (b.complete q rsp).request q' = b.request q' := by cases q' <;> simp

@[simp] theorem Block.busy_complete (b : Block p) (q q' : Port) (rsp : Rsp) :
    (b.complete q rsp).busy q' = if q = q' then false else b.busy q' := by
  have h : (b.complete q rsp).busy q' = (b.busy q' && q != q') := b.busy_setIdle q q'
  rw [h]
  split <;> simp_all

/-! ### What moves an account -/

/-- The account of port `q` is one more in `b'` than in `b`, and that of any other port is the same. -/
structure Gains (b : Block p) (q : Port) (b' : Block p) : Prop where
  own : b'.accounted q = b.accounted q + 1
  other : ∀ q', q ≠ q' → b'.accounted q' = b.accounted q'

/-- What takes one off and what adds one on the same port move no account together. -/
theorem Gains.cancel {b₀ : Block p} (take : Gains b q b₀) (first : Gains b q b') (q' : Port) :
    b'.accounted q' = b₀.accounted q' := by
  by_cases h : q = q'
  · subst h
    exact first.own.trans take.own.symm
  · exact (first.other q' h).trans (take.other q' h).symm

/-- A request presented on a free port adds one to its account. -/
theorem Block.gains_setRequest (free : b.request q = none) (r : Request p) :
    Gains b q (b.setRequest q (some r)) where
  own := by
    simp [Block.accounted, free]
    omega
  other q' h := by simp [Block.accounted, h]

/-- Taking the request of a port takes it off its account. -/
theorem Block.gains_take {r : Request p} (req : b.request q = some r) : Gains (b.take q r) q b where
  own := by
    simp [Block.accounted, req]
    omega
  other q' h := by simp [Block.accounted, h]

/-- A response on an idle port adds one to its account. -/
theorem Block.gains_complete (free : b.busy q = false) (rsp : Rsp) : Gains b q (b.complete q rsp) where
  own := by
    simp [Block.accounted, free]
    omega
  other q' h := by simp [Block.accounted, h]

/-- A response that ends a command in flight leaves every account. -/
theorem Block.accounted_complete (busy : b.busy q = true) (rsp : Rsp) (q' : Port) :
    (b.complete q rsp).accounted q' = b.accounted q' := by
  by_cases h : q = q'
  · subst h
    simp [Block.accounted, busy]
    omega
  · simp [Block.accounted, h]

/-! ### The first micro-step of a command adds one -/

theorem Block.gains_raise (free : b.busy q = false) (c : Cause) (cmd : CmdWord) : Gains b q (b.raise q c cmd) :=
  have free' : Block.busy { b with state := .halted, faultCause := c, faultPort := some q, faultCmd := cmd } q =
      false := free
  have h := Block.gains_complete free' .fault
  ⟨h.own, h.other⟩

theorem Block.gains_setup (b : Block p) (cap : Nat) : Gains b .ctrl (b.setup cap) :=
  have free : Block.busy
      { b with base := opndBase b.opnd, mask := maskOf p cap, wrIdx := 0, rdIdx := 0, state := .ready }
      .ctrl = false := Block.busy_ctrl _
  have h := Block.gains_complete free .doneTrue
  ⟨h.own, h.other⟩

theorem Block.gains_pushS (idle : b.phaseProd = .idle) : Gains b .prod b.pushS := by
  cases hfull : b.full
  · rw [b.pushS_of_not_full hfull]
    refine ⟨?own, fun q' h => ?other⟩
    case own =>
      simp [Block.accounted, idle]
      omega
    case other => cases q' <;> simp_all [Block.accounted]
  · rw [b.pushS_of_full hfull]
    exact Block.gains_complete (by simp [idle]) _

theorem Block.gains_popS (idle : b.phaseCons = .idle) : Gains b .cons b.popS := by
  cases hempty : b.empty
  · rw [b.popS_of_not_empty hempty]
    refine ⟨?own, fun q' h => ?other⟩
    case own =>
      simp [Block.accounted, idle]
      omega
    case other => cases q' <;> simp_all [Block.accounted]
  · rw [b.popS_of_empty hempty]
    exact Block.gains_complete (by simp [idle]) _

/-! ### A turn and a step -/

/-- No turn moves an account. -/
theorem MicroStep.accounted (m : MicroStep b q b') (q' : Port) : b'.accounted q' = b.accounted q' := by
  cases m with
  | void => rfl
  | refused free req => exact (Block.gains_take req).cancel (Block.gains_complete (by simpa using free) _) q'
  | violation free req => exact (Block.gains_take req).cancel (Block.gains_raise (by simpa using free) _ _) q'
  | setup req => exact (Block.gains_take req).cancel (Block.gains_setup _ _) q'
  | pushS free req => exact (Block.gains_take req).cancel (Block.gains_pushS (by simpa using free)) q'
  | popS free req => exact (Block.gains_take req).cancel (Block.gains_popS (by simpa using free)) q'
  | isEmpty free req => exact (Block.gains_take req).cancel (Block.gains_complete (by simpa using free) _) q'
  | pushW phase => cases q' <;> simp [Block.accounted, Block.pushW, phase]
  | popR phase => cases q' <;> simp [Block.accounted, phase]
  | pushP phase =>
    exact Block.accounted_complete (b := { b.atTurn .prod with wrIdx := b.plNW }) (by simp [phase]) _ q'
  | popP phase =>
    exact Block.accounted_complete
      (b := { b.atTurn .cons with popData := b.clD, popWritten := true, rdIdx := b.clNR }) (by simp [phase]) _ q'
  | abandon busy => exact Block.accounted_complete (b := b.atTurn q) (by simpa using busy) _ q'

/-- A turn of `q` answers nothing, or once on `q`. -/
theorem MicroStep.responses_cases (m : MicroStep b q b') :
    b'.responses = b.responses ∨ ∃ rsp, b'.responses = b.responses ++ [{ port := q, rsp := rsp }] := by
  cases m with
  | void | pushW | popR => exact .inl rfl
  | pushP | popP => exact .inr ⟨.doneTrue, rfl⟩
  | setup => exact .inr ⟨.doneTrue, by simp [Block.setup]⟩
  | refused | violation | abandon => exact .inr ⟨.fault, by simp⟩
  | @isEmpty q r => exact .inr ⟨.done (b.take q r).empty, by simp⟩
  | @pushS r =>
    cases hfull : (b.take .prod r).full
    · exact .inl (by rw [Block.pushS_of_not_full _ hfull]; simp)
    · exact .inr ⟨.doneFalse, by rw [Block.pushS_of_full _ hfull]; simp⟩
  | @popS r =>
    cases hempty : (b.take .cons r).empty
    · exact .inl (by rw [Block.popS_of_not_empty _ hempty]; simp)
    · exact .inr ⟨.doneFalse, by rw [Block.popS_of_empty _ hempty]; simp⟩

/-- Settles O49: a turn moves no account and answers at most once, on its port (`MicroStep.accounted`,
`MicroStep.responses_cases`), and a request presented adds one to its port's account. -/
theorem oneResponsePerRequest : Obligations.OneResponsePerRequest := by
  intro p b b' h hno
  cases stepCase_of_step h with
  | idle => exact ⟨fun _ => .inl rfl, .inl rfl⟩
  | @present q r rest head free =>
    have hrsp : (b.setRequest q (some r)).responses = b.responses := Block.setRequest_responses b q _
    have hreq : (b.setRequest q (some r)).request q = some r := by simp
    refine ⟨fun q' => ?_, .inl hrsp⟩
    have hgain := Block.gains_setRequest free r
    by_cases hq : q = q'
    · subst hq
      exact .inr ⟨hgain.own, free, fun hnone => Option.some_ne_none r (hreq.symm.trans hnone), hrsp⟩
    · exact .inl (hgain.other q' hq)
  | reset head => simp [Block.resetting_of_reset head] at hno
  | turn chosen noReset micro =>
    refine ⟨fun q' => .inl (micro.accounted q'), ?_⟩
    rcases micro.responses_cases with hsame | ⟨rsp, hrsp⟩
    · exact .inl hsame
    · exact .inr ⟨_, rsp, chosen, hrsp⟩

end Sys2Proof.Machine
end

section
/-! SETUP (40_setup.md): which acceptance binds a buffer and which faults, what it discards, and the frame it shares
with the other commands that store no element, POP and IS_EMPTY. -/

namespace Sys2Proof.Machine

variable {p : Params} {b b' : Block p} {q : Port} {i : Instr}

/-! ### Acceptance on an idle port, as record updates -/

/-- A response on an idle port ends no command, so it is the only thing written. -/
theorem Block.complete_of_free (free : b.busy q = false) (rsp : Rsp) :
    b.complete q rsp = { b with responses := b.responses ++ [{ port := q, rsp := rsp }] } := by
  have hidle : b.setIdle q = b := by
    cases q with
    | ctrl => rfl
    | prod =>
      have hphase : b.phaseProd = .idle := by simpa using free
      rw [Block.setIdle, ← hphase]
    | cons =>
      have hphase : b.phaseCons = .idle := by simpa using free
      rw [Block.setIdle, ← hphase]
  rw [Block.complete, hidle]

/-- A fault entry on an idle port writes STATE, the fault record and the response only (60_exceptions.md R143). -/
theorem Block.raise_of_free (free : b.busy q = false) (c : Cause) (cmd : CmdWord) :
    b.raise q c cmd = { b with
      state := .halted, faultCause := c, faultPort := some q, faultCmd := cmd,
      responses := b.responses ++ [{ port := q, rsp := .fault }] } := by
  have free' : Block.busy { b with state := .halted, faultCause := c, faultPort := some q, faultCmd := cmd } q =
      false := free
  exact Block.complete_of_free free' .fault

/-- What acceptance of command `i` on an idle port can leave (60_exceptions.md R142 to R144). -/
inductive Accepted (b : Block p) (i : Instr) : Block p → Prop where
  /-- Response 10 while HALTED (60_exceptions.md R144). -/
  | refused (halted : b.state = .halted) :
      Accepted b i { b with responses := b.responses ++ [{ port := b.turn, rsp := .fault }] }
  /-- A check that applies is a fault entry (60_exceptions.md R143). -/
  | violation {c : Cause} (live : b.state ≠ .halted) (cause : c ≠ .none) :
      Accepted b i { b with
        state := .halted, faultCause := c, faultPort := some b.turn, faultCmd := encode i,
        responses := b.responses ++ [{ port := b.turn, rsp := .fault }] }
  /-- No check applies. -/
  | first (live : b.state ≠ .halted) : Accepted b i (b.firstStep i)

theorem Block.accepted_accept (free : b.busy b.turn = false) (i : Instr) :
    Accepted b i (b.accept i (b.firstStep i)) := by
  rcases b.accept_cases i (b.firstStep i) with ⟨hs, he⟩ | ⟨hs, hc, he⟩ | ⟨hs, -, he⟩
  · rw [he, Block.complete_of_free free]
    exact .refused hs
  · rw [he, Block.raise_of_free free]
    exact .violation hs hc
  · rw [he]
    exact .first hs

theorem accepted_of_exec (free : b.busy b.turn = false)
    (h : exec i { par := p, blk := b } = .next { par := p, blk := b' }) : Accepted b i b' := by
  rw [exec_of_free i free] at h
  cases h
  exact Block.accepted_accept free i

/-! ### SETUP -/

theorem capLegal_iff (p : Params) (cap : Nat) :
    capLegal p cap = true ↔ cap ≠ 0 ∧ cap &&& (cap - 1) = 0 ∧ cap ≤ 2 ^ p.capMaxLog2 := by
  simp [capLegal, and_assoc]

/-- With nothing in flight, the capacity alone decides the checks of SETUP on CTRL (60_exceptions.md R142). -/
theorem Block.acceptCheck_setup (hprod : b.phaseProd = .idle) (hcons : b.phaseCons = .idle) (cap : Nat) :
    b.acceptCheck .ctrl (.setup cap) = if capLegal p cap then .none else .cfgCapacity := by
  simp [Block.acceptCheck, permitted, needsSetup, Block.setupCheck, hprod, hcons]

/-- SETUP's successful micro-step (40_setup.md R100): the response on CTRL ends no command. -/
theorem Block.setup_eq (b : Block p) (cap : Nat) :
    b.setup cap = { b with
      base := b.opnd.setWidth p.aw, mask := BitVec.ofNat p.idxW (cap - 1), wrIdx := 0, rdIdx := 0,
      state := .ready, responses := b.responses ++ [{ port := .ctrl, rsp := .doneTrue }] } :=
  Block.complete_of_free (Block.busy_ctrl _) .doneTrue

theorem Block.setup_empty (b : Block p) (cap : Nat) : (b.setup cap).empty = true :=
  (Block.empty_iff _).2 rfl

/-- A buffer just bound is full exactly where its capacity is 1: the successor of index 0 is 1 mod C. -/
theorem Block.setup_full_iff (hlegal : p.Legal) {cap : Nat} (h : capLegal p cap = true) :
    (b.setup cap).full = true ↔ cap = 1 := by
  obtain ⟨k, -, hk⟩ := exists_pow_of_capLegal h
  have hcap := b.setup_capacity hlegal h
  have hwr : (b.setup cap).wrIdx.toNat = 0 := BitVec.toNat_zero
  have hrd : (b.setup cap).rdIdx.toNat = 0 := BitVec.toNat_zero
  rw [Block.full_iff, Block.next_toNat_mod (hcap.trans hk), hcap, hwr, hrd, ← Nat.dvd_iff_mod_eq_zero, Nat.dvd_one]

/-- Settles O19: the capacity decides between the first micro-step and the fault (`Block.acceptCheck_setup`), and
each is a record update (`Block.setup_eq`, `Block.raise_of_free`). -/
theorem setupBindsOrFaults : Obligations.SetupBindsOrFaults := by
  intro p b cap live hturn hprod hcons
  have free : b.busy b.turn = false := by rw [hturn, Block.busy_ctrl]
  have hcheck : b.acceptCheck b.turn (.setup cap) = if capLegal p cap then .none else .cfgCapacity := by
    rw [hturn, Block.acceptCheck_setup hprod hcons]
  rw [exec_of_free _ free]
  split
  · next hformula =>
    have hcap := (capLegal_iff p cap).2 hformula
    rw [Block.accept_of_clear _ live (hcheck.trans (if_pos hcap))]
    exact ⟨_, rfl, b.setup_eq cap, b.setup_empty cap, fun hlegal => Block.setup_full_iff hlegal hcap⟩
  · next hformula =>
    have hcap := mt (capLegal_iff p cap).1 hformula
    rw [Block.accept_of_check _ live (hcheck.trans (if_neg hcap)) (by decide), Block.raise_of_free free,
      hturn]

/-! ### What a SETUP discards -/

theorem Block.occupancy_eq_zero_of_empty (h : b.wrIdx = b.rdIdx) : b.occupancy = 0 := by
  simp [Block.occupancy, h]

/-- A successful SETUP writes no slot and delivers nothing: it is CTRL's turn. -/
theorem MicroStep.setup_keeps (m : MicroStep b q b') (hs : SuccessfulSetup b q b') :
    b'.storage = b.storage ∧ b'.popData = b.popData ∧ b'.popWritten = b.popWritten := by
  obtain rfl := hs.port
  have hstorage : b'.storage = b.storage := m.storage_cases.resolve_left fun h => by simp at h
  rcases m.popData_cases with ⟨hdel, -⟩ | ⟨-, hdata, hwritten⟩
  · simp [Block.deliveredBy] at hdel
  · exact ⟨hstorage, hdata, hwritten⟩

/-- Settles O21: only a turn answers as a SETUP does, and then it is one (`MicroStep.setup_of_rebinds`), which leaves
equal indices and everything else alone (`MicroStep.setup_keeps`). -/
theorem setupDiscardsElements : Obligations.SetupDiscardsElements := by
  intro p b b' h hr
  rcases (stepCase_of_step h).reset_or_turn_or_quiet with
    ⟨rest, -, rfl⟩ | ⟨q, rest, n, -, -, m⟩ | ⟨-, -, hb'⟩
  · exact absurd hr (not_rebinds_of_silent rfl)
  · have hs := m.setup_of_rebinds hr
    obtain ⟨hstorage, hdata, hwritten⟩ := m.setup_keeps hs
    exact ⟨Block.occupancy_eq_zero_of_empty hs.empty, hs.queue_eq_nil, hdata, hwritten,
      fun a => congrArg (Memory.read · a) hstorage, hs.prodIdle, hs.consIdle⟩
  · rw [hb'] at hr
    exact absurd hr (not_rebinds_of_silent rfl)

/-! ### The frame of the commands that store nothing -/

/-- The part of the frame that SETUP, POP and IS_EMPTY share: no slot changes, HALTED stays and is entered by a
fault entry only, and the fault record stays where there is none. -/
structure ControlFrame (b b' : Block p) : Prop where
  storage : b'.storage = b.storage
  staysHalted : b.state = .halted → b'.state = .halted
  haltsByFault : b'.state = .halted → b.state = .halted ∨ b'.faultCause ≠ .none
  record : b'.state ≠ .halted ∨ b.state = .halted →
    b'.faultCause = b.faultCause ∧ b'.faultPort = b.faultPort ∧ b'.faultCmd = b.faultCmd

theorem ControlFrame.of_sameControl (storage : b'.storage = b.storage) (state : b'.state = b.state)
    (cause : b'.faultCause = b.faultCause) (port : b'.faultPort = b.faultPort)
    (cmd : b'.faultCmd = b.faultCmd) : ControlFrame b b' where
  storage := storage
  staysHalted := state.trans
  haltsByFault h := .inl (state.symm.trans h)
  record _ := ⟨cause, port, cmd⟩

theorem Block.firstStep_controlFrame (live : b.state ≠ .halted) (i : Instr) : ControlFrame b (b.firstStep i) := by
  cases i with
  | setup cap =>
    rw [Block.firstStep, Block.setup_eq]
    exact ⟨rfl, fun h => absurd h live, nofun, fun _ => ⟨rfl, rfl, rfl⟩⟩
  | push => rw [Block.firstStep, Block.pushS_frame]; exact .of_sameControl rfl rfl rfl rfl rfl
  | pop => rw [Block.firstStep, Block.popS_frame]; exact .of_sameControl rfl rfl rfl rfl rfl
  | isEmpty => refine .of_sameControl ?_ ?_ ?_ ?_ ?_ <;> simp [Block.firstStep]

theorem Accepted.controlFrame (h : Accepted b i b') : ControlFrame b b' := by
  cases h with
  | refused => exact .of_sameControl rfl rfl rfl rfl rfl
  | violation live cause =>
    exact ⟨rfl, fun _ => rfl, fun _ => .inr cause, fun h => absurd rfl (h.resolve_right live)⟩
  | first live => exact Block.firstStep_controlFrame live i

/-- What the next micro-step of POP can leave, on CONS or on an idle port (42_pop.md R120 to R122). -/
inductive PopStep (b : Block p) : Block p → Prop where
  /-- Nothing is in flight. -/
  | accepted {b' : Block p} (acceptance : Accepted b .pop b') : PopStep b b'
  /-- A POP in flight while HALTED (60_exceptions.md R145). -/
  | abandoned (halted : b.state = .halted) : PopStep b (b.complete .cons .fault)
  /-- POP.R, with the element read. -/
  | popR (d : Elem p) (phase : b.phaseCons = .poR) : PopStep b (b.latched d)
  /-- POP.P. -/
  | popP (phase : b.phaseCons = .poP) : PopStep b b.popP

/-- A POP in flight is abandoned or runs its next micro-step (60_exceptions.md R145). -/
theorem Block.popStep_of_cons (hturn : b.turn = .cons) (h : b.popStep = .next b') : PopStep b b' := by
  cases hphase : b.phaseCons with
  | idle =>
    have free : b.busy b.turn = false := by simp [hturn, hphase]
    rw [Block.popStep_of_free free] at h
    cases h
    exact .accepted (Block.accepted_accept free .pop)
  | poR =>
    simp only [Block.popStep, hturn, hphase, if_true] at h
    rcases Block.continuing_next h with ⟨hs, rfl⟩ | ⟨-, hrun⟩
    · exact .abandoned hs
    · obtain ⟨d, -, rfl⟩ := Block.popR_next hrun
      exact .popR d hphase
  | poP =>
    simp only [Block.popStep, hturn, hphase, if_true] at h
    rcases Block.continuing_next h with ⟨hs, rfl⟩ | ⟨-, hrun⟩
    · exact .abandoned hs
    · cases hrun
      exact .popP hphase

theorem BlockOutcome.eq_next_of_toState {o : BlockOutcome p} (h : o.toState = .next { par := p, blk := b' }) :
    o = .next b' := by
  cases o with
  | next x => cases h; rfl
  | fault f => cases h
  | refused r => cases h

theorem popStep_of_exec (hturn : b.turn = .cons ∨ b.busy b.turn = false)
    (h : exec .pop { par := p, blk := b } = .next { par := p, blk := b' }) : PopStep b b' := by
  rcases hturn with hturn | free
  · exact Block.popStep_of_cons hturn (BlockOutcome.eq_next_of_toState h)
  · exact .accepted (accepted_of_exec free h)

theorem PopStep.controlFrame (h : PopStep b b') : ControlFrame b b' := by
  cases h with
  | accepted acceptance => exact acceptance.controlFrame
  | abandoned | popR | popP => exact .of_sameControl rfl rfl rfl rfl rfl

/-- What SETUP writes: BASE, MASK, the indices and STATE where it succeeds, the fault record where not. -/
theorem Accepted.setup_frame {cap : Nat} (h : Accepted b (.setup cap) b') :
    b' = { b with
      base := b'.base, mask := b'.mask, wrIdx := b'.wrIdx, rdIdx := b'.rdIdx, state := b'.state,
      faultCause := b'.faultCause, faultPort := b'.faultPort, faultCmd := b'.faultCmd,
      responses := b'.responses } ∧
    (b'.state ≠ .halted → b'.state = .ready) ∧
    (b'.state = .halted →
      b'.base = b.base ∧ b'.mask = b.mask ∧ b'.wrIdx = b.wrIdx ∧ b'.rdIdx = b.rdIdx) := by
  cases h with
  | refused halted => exact ⟨rfl, fun h => absurd halted h, fun _ => ⟨rfl, rfl, rfl, rfl⟩⟩
  | violation => exact ⟨rfl, fun h => absurd rfl h, fun _ => ⟨rfl, rfl, rfl, rfl⟩⟩
  | first => exact ⟨b.setup_eq cap, fun _ => rfl, nofun⟩

/-- What IS_EMPTY writes: its response, or a fault entry. -/
theorem Accepted.isEmpty_frame (h : Accepted b .isEmpty b') (free : b.busy b.turn = false) :
    b' = { b with
      state := b'.state, faultCause := b'.faultCause, faultPort := b'.faultPort, faultCmd := b'.faultCmd,
      responses := b'.responses } ∧
    (b'.state ≠ .halted ∨ b.state = .halted → b'.state = b.state) := by
  cases h with
  | refused => exact ⟨rfl, fun _ => rfl⟩
  | violation live => exact ⟨rfl, fun h => absurd rfl (h.resolve_right live)⟩
  | first =>
    rw [Block.firstStep, Block.reportEmpty_eq, Block.complete_of_free free]
    exact ⟨rfl, fun _ => rfl⟩

/-- What POP writes: its latches and PHASE[CONS], RD_IDX and POP_DATA in POP.P only, or a fault entry. -/
theorem PopStep.frame (h : PopStep b b') :
    b' = { b with
      clR := b'.clR, clNR := b'.clNR, clD := b'.clD, rdIdx := b'.rdIdx, popData := b'.popData,
      popWritten := b'.popWritten, phaseCons := b'.phaseCons, state := b'.state,
      faultCause := b'.faultCause, faultPort := b'.faultPort, faultCmd := b'.faultCmd,
      responses := b'.responses } ∧
    (b'.state ≠ .halted ∨ b.state = .halted → b'.state = b.state) ∧
    (b.phaseCons ≠ .poP →
      b'.rdIdx = b.rdIdx ∧ b'.popData = b.popData ∧ b'.popWritten = b.popWritten) := by
  cases h with
  | abandoned | popR => exact ⟨rfl, fun _ => rfl, fun _ => ⟨rfl, rfl, rfl⟩⟩
  | popP phase => exact ⟨rfl, fun _ => rfl, fun h => absurd phase h⟩
  | accepted acceptance =>
    cases acceptance with
    | refused => exact ⟨rfl, fun _ => rfl, fun _ => ⟨rfl, rfl, rfl⟩⟩
    | violation live => exact ⟨rfl, fun h => absurd rfl (h.resolve_right live), fun _ => ⟨rfl, rfl, rfl⟩⟩
    | first =>
      rw [Block.firstStep, Block.popS_frame]
      exact ⟨rfl, fun _ => rfl, fun _ => ⟨rfl, rfl, rfl⟩⟩

/-- The shared part, whatever the command: a POP in flight leaves what `PopStep` says, and any other command what
acceptance leaves. -/
theorem controlFrame_of_exec (h : exec i { par := p, blk := b } = .next { par := p, blk := b' })
    (hturn : (i = .pop ∧ b.turn = .cons) ∨ b.busy b.turn = false) : ControlFrame b b' := by
  rcases hturn with ⟨rfl, hcons⟩ | free
  · exact (popStep_of_exec (.inl hcons) h).controlFrame
  · exact (accepted_of_exec free h).controlFrame

/-- Settles O31: the clauses that the commands share by `controlFrame_of_exec`, the others by each command's own
frame. -/
theorem nonStoringFrame : Obligations.NonStoringFrame := by
  intro p b b' i hpush h hturn
  obtain ⟨hstorage, hstays, hhalts, hrecord⟩ := controlFrame_of_exec h hturn
  refine ⟨fun a => congrArg (Memory.read · a) hstorage, hstays, hhalts, hrecord, ?_⟩
  have free : i ≠ .pop → b.busy b.turn = false := fun hpop => hturn.resolve_left fun hcons => hpop hcons.1
  cases i with
  | setup cap => exact (accepted_of_exec (free nofun) h).setup_frame
  | push => exact absurd rfl hpush
  | pop => exact (popStep_of_exec (hturn.imp_left And.right) h).frame
  | isEmpty => exact (accepted_of_exec (free nofun) h).isEmpty_frame (free nofun)

end Sys2Proof.Machine
end

section
/-! PUSH (41_push.md): its three micro-steps as equations of `exec`, and its frame over all of them. -/

namespace Sys2Proof.Machine

variable {p : Params} {b b' : Block p}

/-! ### The micro-steps -/

/-- No check applies to a PUSH on PROD of a configured block (60_exceptions.md R142). -/
theorem Block.acceptCheck_push (hready : b.state = .ready) : b.acceptCheck .prod .push = .none := by
  simp [Block.acceptCheck_eq_none, permitted, Block.setupCheck, hready]

theorem exec_pushS (hturn : b.turn = .prod) (hphase : b.phaseProd = .idle) (hready : b.state = .ready) :
    exec .push { par := p, blk := b } = .next { par := p, blk := b.pushS } := by
  have free : b.busy b.turn = false := by simp [hturn, hphase]
  have hcheck : b.acceptCheck b.turn .push = .none := by rw [hturn, Block.acceptCheck_push hready]
  rw [exec_of_free _ free, Block.accept_of_clear _ (by simp [hready]) hcheck, Block.firstStep]

theorem exec_pushW (hturn : b.turn = .prod) (hphase : b.phaseProd = .puW) (live : b.state ≠ .halted) :
    exec .push { par := p, blk := b } = .next { par := p, blk := b.pushW } := by
  simp [exec, execPush, Block.pushStep, hturn, hphase, Block.continuing, live]

theorem exec_pushP (hturn : b.turn = .prod) (hphase : b.phaseProd = .puP) (live : b.state ≠ .halted) :
    exec .push { par := p, blk := b } = .next { par := p, blk := b.pushP } := by
  simp [exec, execPush, Block.pushStep, hturn, hphase, Block.continuing, live]

/-- Settles O22: `exec` runs PUSH.S (`exec_pushS`), and FULL decides between the response, which ends no command, and
the latches. -/
theorem pushSamples : Obligations.PushSamples := by
  intro p b hturn hphase hready
  rw [exec_pushS hturn hphase hready]
  split
  · next hfull =>
    rw [b.pushS_of_full (beq_iff_eq.2 hfull), Block.complete_of_free (by simp [hphase])]
  · next hfull =>
    rw [b.pushS_of_not_full (b.full_eq_false.2 hfull)]
    rfl

/-- Settles O23: `exec` runs PUSH.W (`exec_pushW`), whose write changes one slot. -/
theorem pushWritesSlot : Obligations.PushWritesSlot := fun _ _ hturn hphase live =>
  ⟨_, exec_pushW hturn hphase live, rfl, Memory.read_write_same _ _ _, fun _ hne => Memory.read_write_ne hne _ _⟩

/-- Settles O24: `exec` runs PUSH.P (`exec_pushP`), which keeps the invariant, so that the comparators read the
occupancy, and that has gone up by one. -/
theorem pushPublishes : Obligations.PushPublishes := by
  intro p b hturn hphase live
  refine ⟨b.pushP, exec_pushP hturn hphase live, rfl, fun hb => ⟨?_, (hb.pushP hphase).full_iff_occupancy⟩⟩
  rw [← Bool.not_eq_true, (hb.pushP hphase).empty_iff_occupancy, hb.occupancy_pushP hphase]
  exact Nat.succ_ne_zero _

/-! ### The frame -/

/-- What the next micro-step of PUSH can leave, on PROD or on an idle port (41_push.md R110 to R112). -/
inductive PushStep (b : Block p) : Block p → Prop where
  /-- Nothing is in flight. -/
  | accepted {b' : Block p} (acceptance : Accepted b .push b') : PushStep b b'
  /-- A PUSH in flight while HALTED (60_exceptions.md R145). -/
  | abandoned (halted : b.state = .halted) : PushStep b (b.complete .prod .fault)
  /-- PUSH.W. -/
  | pushW (turn : b.turn = .prod) (phase : b.phaseProd = .puW) (live : b.state ≠ .halted) : PushStep b b.pushW
  /-- PUSH.P. -/
  | pushP (phase : b.phaseProd = .puP) : PushStep b b.pushP

/-- A PUSH in flight is abandoned or runs its next micro-step (60_exceptions.md R145). -/
theorem Block.pushStep_of_prod (hturn : b.turn = .prod) (h : b.pushStep = .next b') : PushStep b b' := by
  cases hphase : b.phaseProd with
  | idle =>
    have free : b.busy b.turn = false := by simp [hturn, hphase]
    rw [Block.pushStep_of_free free] at h
    cases h
    exact .accepted (Block.accepted_accept free .push)
  | puW =>
    simp only [Block.pushStep, hturn, hphase, if_true] at h
    rcases Block.continuing_next h with ⟨hs, rfl⟩ | ⟨hs, hrun⟩
    · exact .abandoned hs
    · cases hrun
      exact .pushW hturn hphase hs
  | puP =>
    simp only [Block.pushStep, hturn, hphase, if_true] at h
    rcases Block.continuing_next h with ⟨hs, rfl⟩ | ⟨-, hrun⟩
    · exact .abandoned hs
    · cases hrun
      exact .pushP hphase

theorem pushStep_of_exec (hturn : b.turn = .prod ∨ b.busy b.turn = false)
    (h : exec .push { par := p, blk := b } = .next { par := p, blk := b' }) : PushStep b b' := by
  rcases hturn with hturn | free
  · exact Block.pushStep_of_prod hturn (BlockOutcome.eq_next_of_toState h)
  · exact .accepted (accepted_of_exec free h)

/-- What PUSH writes: its latches and PHASE[PROD], WR_IDX in PUSH.P only, or a fault entry. -/
theorem PushStep.frame (h : PushStep b b') :
    b' = { b with
      wrIdx := b'.wrIdx, phaseProd := b'.phaseProd, plW := b'.plW, plNW := b'.plNW, plD := b'.plD,
      storage := b'.storage, responses := b'.responses,
      state := b'.state, faultCause := b'.faultCause, faultPort := b'.faultPort, faultCmd := b'.faultCmd } ∧
    (b'.state ≠ .halted ∨ b.state = .halted →
      b'.state = b.state ∧ b'.faultCause = b.faultCause ∧ b'.faultPort = b.faultPort ∧ b'.faultCmd = b.faultCmd) ∧
    (b.phaseProd ≠ .puP → b'.wrIdx = b.wrIdx) := by
  cases h with
  | abandoned | pushW => exact ⟨rfl, fun _ => ⟨rfl, rfl, rfl, rfl⟩, fun _ => rfl⟩
  | pushP phase => exact ⟨rfl, fun _ => ⟨rfl, rfl, rfl, rfl⟩, fun h => absurd phase h⟩
  | accepted acceptance =>
    cases acceptance with
    | refused => exact ⟨rfl, fun _ => ⟨rfl, rfl, rfl, rfl⟩, fun _ => rfl⟩
    | violation live => exact ⟨rfl, fun h => absurd rfl (h.resolve_right live), fun _ => rfl⟩
    | first =>
      rw [Block.firstStep, Block.pushS_frame]
      exact ⟨rfl, fun _ => ⟨rfl, rfl, rfl, rfl⟩, fun _ => rfl⟩

/-- PUSH writes the storage in PUSH.W only, and one slot of it. -/
theorem PushStep.storage_cases (h : PushStep b b') :
    (b.turn = .prod ∧ b.phaseProd = .puW ∧ b.state ≠ .halted ∧
        b'.storage = b.storage.write (b.slotAddr b.plW) b.plD) ∨
      b'.storage = b.storage := by
  cases h with
  | pushW turn phase live => exact .inl ⟨turn, phase, live, rfl⟩
  | abandoned | pushP => exact .inr rfl
  | accepted acceptance => exact .inr acceptance.controlFrame.storage

/-- Settles O25: the registers by `PushStep.frame`, the slots by `PushStep.storage_cases`. -/
theorem pushFrame : Obligations.PushFrame := by
  intro p b b' h hturn
  have hstep := pushStep_of_exec hturn h
  obtain ⟨hframe, hcontrol, hwr⟩ := hstep.frame
  refine ⟨hframe, hcontrol, hwr, fun a ha => ?_⟩
  rcases hstep.storage_cases with ⟨hprod, hphase, live, hwrite⟩ | hsame
  · rw [hwrite]
    exact Memory.read_write_ne (fun haddr => ha ⟨hprod, hphase, live, haddr⟩) _ _
  · rw [hsame]

end Sys2Proof.Machine
end

section
/-! The micro-steps that a command in flight has still to take (41_push.md R113, 42_pop.md R123): a measure that each
turn of its port lowers. -/

namespace Sys2Proof.Machine

variable {p : Params} {b b' : Block p} {q q' : Port}

@[simp] theorem Block.stepsLeft_ctrl (b : Block p) : b.stepsLeft .ctrl = 0 := rfl

theorem Block.stepsLeft_le_two (b : Block p) (q : Port) : b.stepsLeft q ≤ 2 := by
  cases q with
  | ctrl => simp
  | prod => cases h : b.phaseProd <;> simp [Block.stepsLeft, h]
  | cons => cases h : b.phaseCons <;> simp [Block.stepsLeft, h]

theorem Block.busy_iff_stepsLeft_pos (b : Block p) (q : Port) : b.busy q = true ↔ 0 < b.stepsLeft q := by
  cases q with
  | ctrl => simp
  | prod => cases h : b.phaseProd <;> simp [Block.stepsLeft, h]
  | cons => cases h : b.phaseCons <;> simp [Block.stepsLeft, h]

/-- Only the phases count. -/
theorem Block.stepsLeft_congr (hprod : b'.phaseProd = b.phaseProd) (hcons : b'.phaseCons = b.phaseCons) (q : Port) :
    b'.stepsLeft q = b.stepsLeft q := by
  cases q <;> simp [Block.stepsLeft, hprod, hcons]

/-- PHASE[PROD] counts for PROD only. -/
theorem Block.stepsLeft_of_ne_prod (hne : .prod ≠ q) (hcons : b'.phaseCons = b.phaseCons) :
    b'.stepsLeft q = b.stepsLeft q := by
  cases q <;> simp_all [Block.stepsLeft]

/-- PHASE[CONS] counts for CONS only. -/
theorem Block.stepsLeft_of_ne_cons (hne : .cons ≠ q) (hprod : b'.phaseProd = b.phaseProd) :
    b'.stepsLeft q = b.stepsLeft q := by
  cases q <;> simp_all [Block.stepsLeft]

@[simp] theorem Block.stepsLeft_take (b : Block p) (q q' : Port) (r : Request p) :
    (b.take q r).stepsLeft q' = b.stepsLeft q' := Block.stepsLeft_congr (by simp) (by simp) q'

/-- A response leaves the port nothing to do, and the other ports what they had. -/
@[simp] theorem Block.stepsLeft_complete (b : Block p) (q q' : Port) (rsp : Rsp) :
    (b.complete q rsp).stepsLeft q' = if q = q' then 0 else b.stepsLeft q' := by
  cases q <;> cases q' <;> simp [Block.stepsLeft]

@[simp] theorem Block.stepsLeft_raise (b : Block p) (q q' : Port) (c : Cause) (cmd : CmdWord) :
    (b.raise q c cmd).stepsLeft q' = if q = q' then 0 else b.stepsLeft q' := Block.stepsLeft_complete _ q q' .fault

/-- A turn of a port with a command in flight takes at least one micro-step off. -/
theorem MicroStep.stepsLeft_lt (m : MicroStep b q b') (busy : b.busy q = true) : b'.stepsLeft q < b.stepsLeft q := by
  have hpos := (b.busy_iff_stepsLeft_pos q).1 busy
  cases m with
  | void free | refused free | violation free | isEmpty free => simp [free] at busy
  | setup => simp at busy
  | pushS free | popS free => simp [free] at busy
  | pushW phase | popR phase => simp [Block.stepsLeft, Block.pushW, phase]
  | pushP | popP => exact hpos
  | abandon => simpa using hpos

/-- A turn of another port leaves the number. -/
theorem MicroStep.stepsLeft_other (m : MicroStep b q b') (hne : q ≠ q') : b'.stepsLeft q' = b.stepsLeft q' := by
  cases m with
  | void => rfl
  | refused | violation | isEmpty => simp [hne]
  | abandon => exact (Block.stepsLeft_complete _ _ _ _).trans (if_neg hne)
  | setup => exact Block.stepsLeft_congr rfl rfl q'
  | pushS => exact Block.stepsLeft_of_ne_prod hne (by rw [Block.pushS_frame]; rfl)
  | popS => exact Block.stepsLeft_of_ne_cons hne (by rw [Block.popS_frame]; rfl)
  | pushW | pushP => exact Block.stepsLeft_of_ne_prod hne rfl
  | popR | popP => exact Block.stepsLeft_of_ne_cons hne rfl

/-- Settles O50: the bound and the phase by `Block.stepsLeft_le_two` and `Block.busy_iff_stepsLeft_pos`; a turn is the
port's own (`MicroStep.stepsLeft_lt`) or another's (`MicroStep.stepsLeft_other`), and no other step but the reset moves
a phase. -/
theorem commandsTakeThreeSteps : Obligations.CommandsTakeThreeSteps := by
  intro p b b' q h hno
  refine ⟨b.stepsLeft_le_two q, b.busy_iff_stepsLeft_pos q, ?_⟩
  rcases (stepCase_of_step h).reset_or_turn_or_quiet with
    ⟨rest, hreset, -⟩ | ⟨q', rest, n, hq', -, m⟩ | ⟨hnone, -, hb'⟩
  · simp [hno] at hreset
  · constructor
    · intro busy hsel
      obtain rfl : q' = q := Option.some_inj.1 (hq'.symm.trans hsel)
      exact m.stepsLeft_lt busy
    · intro hsel
      exact m.stepsLeft_other fun hqq => hsel (hqq ▸ hq')
  · refine ⟨fun _ hsel => (nomatch hnone.symm.trans hsel), fun _ => ?_⟩
    rw [hb']
    rfl

end Sys2Proof.Machine
end

section
/-! The capacity boundary (41_push.md R114): a run of consecutive PUSHes, each given three turns of PROD, from an empty
buffer. -/

namespace Sys2Proof.Machine

variable {p : Params} {b b' : Block p} {q : Port}

/-! ### Runs -/

theorem run_succ_of_step {M : Host.Core} {s t : M.State} (h : M.step s = .next t) (k : Nat) :
    M.run (k + 1) s = M.run k t := by
  simp [Host.Core.run, h]

/-- A run of `m + k` steps is a run of `m` steps and then one of `k`. -/
theorem run_add_of_run {M : Host.Core} {s t : M.State} {m : Nat} (h : M.run m s = .next t) (k : Nat) :
    M.run (m + k) s = M.run k t := by
  induction m generalizing s with
  | zero =>
    cases h
    rw [Nat.zero_add]
  | succ m ih =>
    rw [Nat.succ_add]
    cases hs : M.step s with
    | next s' =>
      rw [run_succ_of_step hs] at h ⊢
      exact ih h
    | fault r | refused r => simp [Host.Core.run, hs] at h

/-- `k` steps of the machine lead from the block `b` to the block `b'`. -/
def Runs (k : Nat) (b b' : Block p) : Prop :=
  Host.Core.run Sys2Proof.core k ({ par := p, blk := b } : State) = .next ({ par := p, blk := b' } : State)

theorem Runs.zero (b : Block p) : Runs 0 b b := rfl

theorem Runs.step {b₁ : Block p} {k : Nat} (h : step { par := p, blk := b } = .next { par := p, blk := b₁ })
    (h' : Runs k b₁ b') : Runs (k + 1) b b' :=
  (run_succ_of_step (M := Sys2Proof.core) h k).trans h'

theorem Runs.trans {b₁ : Block p} {m k : Nat} (h : Runs m b b₁) (h' : Runs k b₁ b') : Runs (m + k) b b' :=
  (run_add_of_run (M := Sys2Proof.core) h k).trans h'

/-- A scheduled turn, once it is no longer to come. -/
theorem step_of_run {rest : List (Event p)} (head : b.events = .run q :: rest) :
    step { par := p, blk := b } = State.takeTurn { par := p, blk := b.moved rest b.draws } q := by
  rw [step_of_selected (q := q) (by simp [Block.selected, head]), Block.turnGiven, head]
  rfl

/-- A scheduled turn of an idle port with nothing presented only takes itself off the schedule (log 4). -/
theorem step_of_void_run {rest : List (Event p)} (head : b.events = .run q :: rest) (free : b.busy q = false)
    (none : b.request q = none) :
    step { par := p, blk := b } = .next { par := p, blk := b.moved rest b.draws } := by
  rw [step_of_run head, State.takeTurn_of_void (by simpa using free) (by simpa using none)]

/-! ### The four steps of one PUSH -/

/-- PROD's request for `PUSH d`. -/
def pushRequest (d : Opnd p) : Request p := { cmd := 0x00000001, opnd := d }

theorem step_pushS {d : Opnd p} {rest : List (Event p)} (head : b.events = .run .prod :: rest)
    (hphase : b.phaseProd = .idle) (hreq : b.reqProd = some (pushRequest d)) (hready : b.state = .ready) :
    step { par := p, blk := b } =
      .next { par := p, blk := ((b.moved rest b.draws).take .prod (pushRequest d)).pushS } := by
  have hdecode : decode (pushRequest d).cmd = .ok .push := decode_encode (i := .push) rfl
  rw [step_of_run head, State.takeTurn_of_request (r := pushRequest d) (by simp [hphase]) (by simp [hreq])]
  simp only [State.accept, hdecode]
  exact exec_pushS rfl hphase hready

theorem step_pushW {rest : List (Event p)} (head : b.events = .run .prod :: rest) (hphase : b.phaseProd = .puW)
    (live : b.state ≠ .halted) :
    step { par := p, blk := b } = .next { par := p, blk := ((b.moved rest b.draws).atTurn .prod).pushW } := by
  rw [step_of_run head, State.takeTurn_of_busy (by simp [hphase])]
  exact exec_pushW rfl hphase live

theorem step_pushP {rest : List (Event p)} (head : b.events = .run .prod :: rest) (hphase : b.phaseProd = .puP)
    (live : b.state ≠ .halted) :
    step { par := p, blk := b } = .next { par := p, blk := ((b.moved rest b.draws).atTurn .prod).pushP } := by
  rw [step_of_run head, State.takeTurn_of_busy (by simp [hphase])]
  exact exec_pushP rfl hphase live

/-! ### Blocks between two PUSHes -/

/-- A configured block with the invariant, nothing in flight and nothing presented on PROD. -/
structure Block.ProdReady (b : Block p) : Prop where
  inv : b.Inv
  ready : b.state = .ready
  idle : b.phaseProd = .idle
  noRequest : b.reqProd = none

/-- `b'` is ready for a PUSH, and from `b` to `b'` the elements of `os` were pushed, each PUSH responding 01. -/
structure Pushed (b : Block p) (os : List (Opnd p)) (b' : Block p) : Prop where
  prodReady : b'.ProdReady
  capacity : b'.capacity = b.capacity
  queue : b'.queue = b.queue ++ os.map fun o => some (o.setWidth p.dataW)
  responses : b'.responses = b.responses ++ List.replicate os.length { port := .prod, rsp := .doneTrue }

theorem Pushed.nil (hb : b.ProdReady) : Pushed b [] b :=
  ⟨hb, rfl, by simp, by simp⟩

theorem Pushed.cons {b₁ : Block p} {o : Opnd p} {os : List (Opnd p)} (h : Pushed b [o] b₁)
    (h' : Pushed b₁ os b') : Pushed b (o :: os) b' where
  prodReady := h'.prodReady
  capacity := h'.capacity.trans h.capacity
  queue := by rw [h'.queue, h.queue]; simp
  responses := by rw [h'.responses, h.responses]; simp [List.replicate_succ]

theorem Block.length_queue (b : Block p) : b.queue.length = b.occupancy := by simp [Block.queue_eq]

/-- Each PUSH makes one more element live. -/
theorem Pushed.occupancy {os : List (Opnd p)} (h : Pushed b os b') : b'.occupancy = b.occupancy + os.length := by
  rw [← Block.length_queue, ← Block.length_queue, h.queue, List.length_append, List.length_map]

/-- The block with `PUSH o` presented on PROD. -/
def Block.presented (b : Block p) (o : Opnd p) (rest : List (Event p)) : Block p :=
  { b with reqProd := some (pushRequest o), events := rest }

/-- The block with `PUSH o` taken from PROD. -/
def Block.taken (b : Block p) (o : Opnd p) (rest : List (Event p)) : Block p :=
  { b with reqProd := none, turn := .prod, opnd := o, events := rest }

/-- The block with `PUSH o` sampled: PUSH.W is next. -/
def Block.sampled (b : Block p) (o : Opnd p) (rest : List (Event p)) : Block p :=
  { b.taken o rest with plW := b.wrIdx, plNW := b.next b.wrIdx, plD := opndElem o, phaseProd := .puW }

/-- The turn that takes the request moves nothing else. -/
theorem Block.take_presented (b : Block p) (o : Opnd p) (rest rest' : List (Event p)) :
    ((b.presented o rest).moved rest' b.draws).take .prod (pushRequest o) = b.taken o rest' := by
  apply Block.ext <;> simp [Block.presented, Block.taken, pushRequest]

theorem Block.pushS_taken (o : Opnd p) (rest : List (Event p)) (hfull : b.full = false) :
    (b.taken o rest).pushS = b.sampled o rest := Block.pushS_of_not_full _ hfull

theorem Block.Inv.sampled (hb : b.Inv) (hready : b.state = .ready) (hfull : b.full = false) (o : Opnd p)
    (rest : List (Event p)) : (b.sampled o rest).Inv := by
  have htaken : (b.taken o rest).Inv := (hb.present .prod (some (pushRequest o)) rest).take .prod (pushRequest o)
  rw [← Block.pushS_taken o rest hfull]
  exact htaken.pushS hready

/-! ### One PUSH -/

/-- A PUSH is presented and then taken by its first turn, which runs PUSH.S. -/
theorem Block.ProdReady.runs_pushS (hb : b.ProdReady) {o : Opnd p} {rest : List (Event p)} {k : Nat}
    (head : b.events = .present .prod (pushRequest o) :: .run .prod :: rest) (h : Runs k (b.taken o rest).pushS b') :
    Runs (k + 2) b b' := by
  have hpushS : step { par := p, blk := b.presented o (.run .prod :: rest) } =
      .next { par := p, blk := (b.taken o rest).pushS } :=
    b.take_presented o _ rest ▸ step_pushS (b := b.presented o _) rfl hb.idle rfl hb.ready
  exact .step (step_of_present head hb.noRequest) (.step hpushS h)

/-- A PUSH that finds room appends its element and responds 01. -/
theorem Block.ProdReady.runs_push (hb : b.ProdReady) {o : Opnd p} {rest : List (Event p)} (hfull : b.full = false)
    (head : b.events = pushScript o ++ rest) : ∃ b', Runs 4 b b' ∧ Pushed b [o] b' ∧ b'.events = rest := by
  have live : b.state ≠ .halted := by simp [hb.ready]
  have hinv := hb.inv.sampled hb.ready hfull o rest
  have hpushW : step { par := p, blk := b.sampled o (.run .prod :: .run .prod :: rest) } =
      .next { par := p, blk := (b.sampled o (.run .prod :: rest)).pushW } := step_pushW rfl rfl live
  have hpushP : step { par := p, blk := (b.sampled o (.run .prod :: rest)).pushW } =
      .next { par := p, blk := (b.sampled o rest).pushW.pushP } := step_pushP rfl rfl live
  refine
    ⟨(b.sampled o rest).pushW.pushP, hb.runs_pushS head ?run, ⟨⟨?inv, hb.ready, rfl, rfl⟩, rfl, ?queue, rfl⟩, rfl⟩
  case run =>
    rw [Block.pushS_taken _ _ hfull]
    exact .step hpushW (.step hpushP (.zero _))
  case inv => exact (hinv.pushW rfl).pushP rfl
  case queue =>
    rw [(hinv.pushW rfl).queue_pushP rfl, hinv.queue_pushW rfl]
    rfl

/-- PUSH.S of a full buffer leaves no more than the response 00. -/
theorem Block.ProdReady.pushS_taken_of_full (hb : b.ProdReady) (o : Opnd p) (rest : List (Event p))
    (hfull : b.full = true) :
    (b.taken o rest).pushS = { b with
      responses := b.responses ++ [{ port := .prod, rsp := .doneFalse }],
      turn := .prod, opnd := o, events := rest } := by
  have free : (b.taken o rest).busy .prod = false := by simp [Block.taken, hb.idle]
  rw [Block.pushS_of_full (b.taken o rest) hfull, Block.complete_of_free free, Block.taken, ← hb.noRequest]

/-- A PUSH that finds the buffer full responds 00 in its first turn, and its two other turns are void (log 4). -/
theorem Block.ProdReady.runs_push_of_full (hb : b.ProdReady) {o : Opnd p} {rest : List (Event p)}
    (hfull : b.full = true) (head : b.events = pushScript o ++ rest) :
    Runs 4 b { b with
      responses := b.responses ++ [{ port := .prod, rsp := .doneFalse }],
      turn := .prod, opnd := o, events := rest } := by
  have hvoid : ∀ rest', step { par := p, blk := (b.taken o (.run .prod :: rest')).pushS } =
      .next { par := p, blk := (b.taken o rest').pushS } := fun rest' => by
    rw [hb.pushS_taken_of_full o _ hfull, hb.pushS_taken_of_full o _ hfull]
    exact step_of_void_run rfl (by simp [hb.idle]) hb.noRequest
  rw [← hb.pushS_taken_of_full o rest hfull]
  exact hb.runs_pushS head (.step (hvoid _) (.step (hvoid _) (.zero _)))

/-! ### The boundary -/

/-- PUSHes that find room one after the other push their elements in order. -/
theorem Block.ProdReady.runs_pushes (hb : b.ProdReady) {os : List (Opnd p)} {rest : List (Event p)}
    (room : b.occupancy + os.length < b.capacity) (head : b.events = os.flatMap pushScript ++ rest) :
    ∃ b', Runs (4 * os.length) b b' ∧ Pushed b os b' ∧ b'.events = rest := by
  induction os generalizing b with
  | nil => exact ⟨b, .zero b, .nil hb, head⟩
  | cons o os ih =>
    rw [List.length_cons] at room
    have hfull : b.full = false := by
      rw [← Bool.not_eq_true, hb.inv.full_iff_occupancy]
      omega
    rw [List.flatMap_cons, List.append_assoc] at head
    obtain ⟨b₁, hrun₁, hpush₁, head₁⟩ := hb.runs_push hfull head
    have room₁ : b₁.occupancy + os.length < b₁.capacity := by
      rw [hpush₁.occupancy, hpush₁.capacity, List.length_singleton]
      omega
    obtain ⟨b', hrun, hpush, hevents⟩ := ih hpush₁.prodReady room₁ head₁
    refine ⟨b', ?_, hpush₁.cons hpush, hevents⟩
    rw [List.length_cons, Nat.mul_succ, Nat.add_comm]
    exact hrun₁.trans hrun

/-- Settles O26: the C - 1 PUSHes find room (`Block.ProdReady.runs_pushes`) and leave C - 1 elements, so that the C-th
finds the buffer full (`Block.ProdReady.runs_push_of_full`). -/
theorem capacityBoundary : Obligations.CapacityBoundary := by
  intro p b ds d rest hinv hready hidle hnone hocc hlen head
  have hb : b.ProdReady := ⟨hinv, hready, hidle, hnone⟩
  rw [List.flatMap_append, List.append_assoc, List.flatMap_singleton] at head
  obtain ⟨b', hrun, hpush, hevents⟩ := hb.runs_pushes (by omega) head
  have hempty : b.queue = [] := List.length_eq_zero_iff.1 (b.length_queue.trans hocc)
  have hfull : b'.full = true := by
    rw [hpush.prodReady.inv.full_iff_occupancy, hpush.occupancy, hpush.capacity]
    omega
  refine ⟨b', _, hrun, hpush.responses, ?_, hpush.prodReady.runs_push_of_full hfull hevents, rfl⟩
  rw [hpush.queue, hempty, List.nil_append]

end Sys2Proof.Machine
end

section
/-! POP (42_pop.md): its three micro-steps as equations of `exec`, and the order in which a run delivers what it
publishes (R124). -/

namespace Sys2Proof.Machine

variable {p : Params} {b b' : Block p}

/-! ### The order of a run -/

/-- Along a run the queue loses at its head what is delivered and gains at its tail what is published: the steps
of `queueRefinement`, composed. It holds from any queue. -/
theorem History.queue_append {us vs : List (Elem p)} (h : History b us vs b') (hb : b.Inv) :
    b'.Inv ∧ b.queue ++ us.map some = vs.map some ++ b'.queue := by
  induction h with
  | refl => exact ⟨hb, by simp⟩
  | @step us vs c c' _ noReset next noSetup ih =>
    obtain ⟨hc, hqueue⟩ := ih
    obtain ⟨-, hmoves, -, -⟩ := queueRefinement p c c' hc next noReset
    refine ⟨stepKeepsInvariant p c c' hc next, ?_⟩
    calc b.queue ++ (us ++ c.published).map some
        = (b.queue ++ us.map some) ++ c.published.map some := by rw [List.map_append, List.append_assoc]
      _ = vs.map some ++ (c.queue ++ c.published.map some) := by rw [hqueue, List.append_assoc]
      _ = vs.map some ++ (c.delivered.map some ++ c'.queue) := by rw [hmoves noSetup]
      _ = (vs ++ c.delivered).map some ++ c'.queue := by rw [List.map_append, List.append_assoc]

/-- Settles O48: from an empty queue, what a run publishes is what it delivers and then what the queue holds
(`History.queue_append`). -/
theorem fifoOrder : Obligations.FifoOrder := by
  intro p b b' us vs hb hempty h
  have horder : us.map some = vs.map some ++ b'.queue := by simpa [hempty] using (h.queue_append hb).2
  obtain ⟨front, back, rfl, hfront, -⟩ := List.map_eq_append_iff.1 horder
  obtain rfl : front = vs := List.map_injective_iff.2 (Option.some_injective _) hfront
  exact ⟨horder, List.prefix_append _ _⟩

/-! ### The micro-steps -/

/-- No check applies to a POP on CONS of a configured block (60_exceptions.md R142). -/
theorem Block.acceptCheck_pop (hready : b.state = .ready) : b.acceptCheck .cons .pop = .none := by
  simp [Block.acceptCheck_eq_none, permitted, Block.setupCheck, hready]

theorem exec_popS (hturn : b.turn = .cons) (hphase : b.phaseCons = .idle) (hready : b.state = .ready) :
    exec .pop { par := p, blk := b } = .next { par := p, blk := b.popS } := by
  have free : b.busy b.turn = false := by simp [hturn, hphase]
  have hcheck : b.acceptCheck b.turn .pop = .none := by rw [hturn, Block.acceptCheck_pop hready]
  rw [exec_of_free _ free, Block.accept_of_clear _ (by simp [hready]) hcheck, Block.firstStep]

theorem exec_popR (hturn : b.turn = .cons) (hphase : b.phaseCons = .poR) (live : b.state ≠ .halted) :
    exec .pop { par := p, blk := b } = b.popR.toState := by
  simp [exec, execPop, Block.popStep, hturn, hphase, Block.continuing, live]

theorem exec_popP (hturn : b.turn = .cons) (hphase : b.phaseCons = .poP) (live : b.state ≠ .halted) :
    exec .pop { par := p, blk := b } = .next { par := p, blk := b.popP } := by
  simp [exec, execPop, Block.popStep, hturn, hphase, Block.continuing, live]

/-- Settles O27: `exec` runs POP.S (`exec_popS`), and EMPTY decides between the response, which ends no command, and
the latches. -/
theorem popSamples : Obligations.PopSamples := by
  intro p b hturn hphase hready
  rw [exec_popS hturn hphase hready]
  split
  · next hempty =>
    rw [b.popS_of_empty (beq_iff_eq.2 hempty), Block.complete_of_free (by simp [hphase])]
  · next hempty =>
    rw [b.popS_of_not_empty (b.empty_eq_false.2 hempty)]
    rfl

/-- Settles O28: `exec` runs POP.R (`exec_popR`), which latches what a written slot holds. -/
theorem popReadsSlot : Obligations.PopReadsSlot := by
  intro p b d hturn hphase live slot
  rw [exec_popR hturn hphase live, Block.popR_of_written slot]
  rfl

/-- After POP.P the buffer is not full, whatever its capacity: the queue has lost an element (10_state.md R28). -/
theorem Block.Inv.full_popP (hb : b.Inv) (hphase : b.phaseCons = .poP) : b.popP.full = false := by
  rw [← Bool.not_eq_true, (hb.popP hphase).full_iff_occupancy]
  have hone : b.occupancy = b.popP.occupancy + 1 := hb.occupancy_popP hphase
  have hlt : b.occupancy < b.popP.capacity := b.occupancy_lt
  omega

/-- Settles O30: `exec` runs POP.P (`exec_popP`), which keeps the invariant, so that the comparators read the
occupancy, and that has gone down by one. -/
theorem popPublishes : Obligations.PopPublishes := fun _ b hturn hphase live =>
  ⟨b.popP, exec_popP hturn hphase live, rfl, fun hb =>
    ⟨fun _ => hb.full_popP hphase, (hb.popP hphase).empty_iff_occupancy⟩⟩

end Sys2Proof.Machine
end

section
/-! IS_EMPTY (43_is_empty.md): what it responds (R130), and who can make that response stale (R131). -/

namespace Sys2Proof.Machine

variable {p : Params} {b : Block p}

/-- EMPTY says that the abstract queue has no element (10_state.md R28, R29). -/
theorem Block.Inv.empty_iff_queue (hb : b.Inv) : b.empty = true ↔ b.queue = [] := by
  rw [hb.empty_iff_occupancy, ← b.length_queue, List.length_eq_zero_iff]

theorem Block.Inv.empty_eq_false_iff_queue (hb : b.Inv) : b.empty = false ↔ b.queue ≠ [] := by
  rw [← Bool.not_eq_true, hb.empty_iff_queue]

/-- Settles O33: a step appends what it publishes to the queue and takes what it delivers from it
(`queueRefinement`), and EMPTY says that the queue has no element (`Block.Inv.empty_iff_queue`). -/
theorem emptinessIsOwned : Obligations.EmptinessIsOwned := by
  intro p b b' h hno hset
  have hb' (hb : b.Inv) : b'.Inv := stepKeepsInvariant p b b' hb h
  have hqueue (hb : b.Inv) : b.queue ++ b.published.map some = b.delivered.map some ++ b'.queue := by
    obtain ⟨-, hmoves, -, -⟩ := queueRefinement p b b' hb h hno
    exact hmoves hset
  constructor
  · intro hempty hdel hb
    have hkept : b.queue ++ b.published.map some = b'.queue := by simpa [hdel] using hqueue hb
    rw [(hb' hb).empty_eq_false_iff_queue, ← hkept]
    exact List.append_ne_nil_of_left_ne_nil (hb.empty_eq_false_iff_queue.1 hempty) _
  · intro hempty hpub hb
    have hnil : [] = b.delivered.map some ++ b'.queue := by
      simpa [hpub, hb.empty_iff_queue.1 hempty] using hqueue hb
    exact (hb' hb).empty_iff_queue.2 (List.append_eq_nil_iff.1 hnil.symm).2

/-- No check applies to an IS_EMPTY on PROD or CONS, whatever STATE is (60_exceptions.md R142). -/
theorem Block.acceptCheck_isEmpty (hturn : b.turn = .prod ∨ b.turn = .cons) :
    b.acceptCheck b.turn .isEmpty = .none := by
  rcases hturn with hturn | hturn <;> simp [Block.acceptCheck_eq_none, permitted, needsSetup, Block.setupCheck, hturn]

/-- IS_EMPTY's response (43_is_empty.md R130): 01 where the indices are equal. -/
theorem Block.done_empty (b : Block p) :
    Rsp.done b.empty = if b.rdIdx = b.wrIdx then .doneTrue else .doneFalse := by
  simp [Rsp.done, Block.empty]

/-- Settles O32: no check applies (`Block.acceptCheck_isEmpty`), so that `exec` answers EMPTY on the idle port. -/
theorem isEmptyResponds : Obligations.IsEmptyResponds := by
  intro p b live free hturn
  rw [exec_of_free _ free, Block.accept_of_clear _ live (Block.acceptCheck_isEmpty hturn), Block.firstStep,
    Block.reportEmpty, Block.complete_of_free free, b.done_empty]

end Sys2Proof.Machine
end

section
/-! Who takes the turn and what acceptance answers (60_exceptions.md R142, R144, R151): the free choice, the checks in
their order, and the faults that PUSH, POP and SETUP meet at them. -/

namespace Sys2Proof.Machine

variable {p : Params} {b : Block p} {q : Port} {r : Request p} {i : Instr}

/-! ### The free choice -/

/-- Whatever the free value, the choice is among the ports it is given. -/
theorem mem_of_choosePort {n : Nat} {qs : List Port} (h : choosePort n qs = some q) : q ∈ qs := by
  match qs with
  | [q'] =>
    cases h
    exact List.mem_singleton_self q
  | q' :: q'' :: rest =>
    have hlt := Nat.mod_lt (Config.freeTurn n) (Nat.zero_lt_succ (q'' :: rest).length)
    simp only [choosePort, Option.some_inj] at h
    rw [← h, List.getD_eq_getElem _ _ hlt]
    exact List.getElem_mem hlt

theorem exists_choosePort {n : Nat} {qs : List Port} (h : q ∈ qs) : ∃ q', choosePort n qs = some q' := by
  match qs with
  | [q'] => exact ⟨q', rfl⟩
  | q' :: q'' :: rest => exact ⟨_, rfl⟩

theorem Block.mem_enabledPorts : q ∈ b.enabledPorts ↔ b.enabled q = true := by
  cases q <;> simp [Block.enabledPorts]

/-- Settles O8: the choice is among the enabled ports (`mem_of_choosePort`), and it is made where there is one
(`exists_choosePort`). -/
theorem freeTurnIsEnabled : Obligations.FreeTurnIsEnabled := fun _ _ =>
  ⟨fun _ h => Block.mem_enabledPorts.1 (mem_of_choosePort h),
    fun _ h => exists_choosePort (Block.mem_enabledPorts.2 h)⟩

/-! ### The step of a port whose request is accepted -/

/-- The step runs the command that the word decodes to, at the block with the request taken. -/
theorem step_of_decoded (hsel : b.selected = some q) (free : b.busy q = false) (req : b.request q = some r)
    (word : decode r.cmd = .ok i) :
    step { par := p, blk := b } = exec i { par := p, blk := b.turnGiven.take q r } := by
  rw [step_of_selected hsel, State.takeTurn_of_request (by simpa using free) (by simpa using req)]
  simp only [State.accept, word]

/-- Settles O6: `step_of_decoded`. -/
theorem stepRunsDecodedCommand : Obligations.StepRunsDecodedCommand := fun _ _ _ _ _ => step_of_decoded

/-- The step accepts the command that the word decodes to. -/
theorem step_of_command (hsel : b.selected = some q) (free : b.busy q = false) (req : b.request q = some r)
    (word : decode r.cmd = .ok i) :
    step { par := p, blk := b } =
      .next { par := p, blk := (b.turnGiven.take q r).accept i ((b.turnGiven.take q r).firstStep i) } := by
  rw [step_of_decoded hsel free req word, exec_of_free i (by simpa using free)]

/-- In HALTED the request is taken and answered 10, whatever its word (60_exceptions.md R144). -/
theorem step_of_halted (hsel : b.selected = some q) (free : b.busy q = false) (req : b.request q = some r)
    (halted : b.state = .halted) :
    step { par := p, blk := b } = .next { par := p, blk := (b.turnGiven.take q r).complete q .fault } := by
  have halted' : (b.turnGiven.take q r).state = .halted := by simpa using halted
  cases word : decode r.cmd with
  | ok i => rw [step_of_command hsel free req word, Block.accept_of_halted i _ halted', Block.take_turn]
  | error e =>
    rw [step_of_selected hsel, State.takeTurn_of_request (by simpa using free) (by simpa using req)]
    simp only [State.accept, word, Block.acceptIllegal, if_pos halted', Block.take_turn]

/-- Settles O13: the answer of `step_of_halted`, on an idle port, is the response only. -/
theorem haltedRequestsRespondFault : Obligations.HaltedRequestsRespondFault := by
  intro p b q r hsel free req halted
  rw [step_of_halted hsel free req halted, Block.complete_of_free (by simpa using free), Block.take_responses,
    Block.turnGiven_responses]
  rfl

/-! ### The checks of each command -/

/-- Checks 3 to 6 in a block that is not halted: the first that applies decides. -/
theorem Block.accept_of_live (live : b.state ≠ .halted) (i : Instr) (first : Block p) :
    b.accept i first =
      if permitted i b.turn = false then b.raise b.turn .wrongPort (encode i)
      else if needsSetup i = true ∧ b.state = .uncfg then b.raise b.turn .notConfigured (encode i)
      else if b.setupCheck i = .none then first
      else b.raise b.turn (b.setupCheck i) (encode i) := by
  split_ifs with hport hsetup hcheck
  · exact Block.accept_of_check first live ((b.acceptCheck_eq_wrongPort _ _).2 hport) (by decide)
  · exact Block.accept_of_check first live (by simp [Block.acceptCheck, hport, hsetup]) (by decide)
  · exact Block.accept_of_clear first live
      ((b.acceptCheck_eq_none _ _).2 ⟨by simpa using hport, hsetup, hcheck⟩)
  · refine Block.accept_of_check first live ?_ hcheck
    rw [Block.acceptCheck, if_neg (by simpa using hport), if_neg (by simpa using hsetup)]

theorem Block.accept_push (live : b.state ≠ .halted) (first : Block p) :
    b.accept .push first =
      if b.turn ≠ .prod then b.raise b.turn .wrongPort (encode .push)
      else if b.state = .uncfg then b.raise b.turn .notConfigured (encode .push)
      else first := by
  simp [Block.accept_of_live live, permitted, needsSetup, Block.setupCheck]

theorem Block.accept_pop (live : b.state ≠ .halted) (first : Block p) :
    b.accept .pop first =
      if b.turn ≠ .cons then b.raise b.turn .wrongPort (encode .pop)
      else if b.state = .uncfg then b.raise b.turn .notConfigured (encode .pop)
      else first := by
  simp [Block.accept_of_live live, permitted, needsSetup, Block.setupCheck]

theorem Block.accept_isEmpty (live : b.state ≠ .halted) (first : Block p) :
    b.accept .isEmpty first =
      if b.turn = .ctrl then b.raise b.turn .wrongPort (encode .isEmpty) else first := by
  rw [Block.accept_of_live live]
  cases b.turn <;> simp [permitted, needsSetup, Block.setupCheck]

theorem Block.setupCheck_setup (b : Block p) (cap : Nat) :
    b.setupCheck (.setup cap) =
      if b.phaseProd ≠ .idle ∨ b.phaseCons ≠ .idle then .setupBusy
      else if capLegal p cap = false then .cfgCapacity
      else .none := by
  cases hcap : capLegal p cap <;> simp [Block.setupCheck, hcap]

theorem Block.accept_setup (live : b.state ≠ .halted) (cap : Nat) (first : Block p) :
    b.accept (.setup cap) first =
      if b.turn ≠ .ctrl then b.raise b.turn .wrongPort (encode (.setup cap))
      else if b.phaseProd ≠ .idle ∨ b.phaseCons ≠ .idle then b.raise b.turn .setupBusy (encode (.setup cap))
      else if capLegal p cap = false then b.raise b.turn .cfgCapacity (encode (.setup cap))
      else first := by
  rw [Block.accept_of_live live, Block.setupCheck_setup]
  simp only [permitted, needsSetup, beq_eq_false_iff_ne]
  split_ifs <;> simp_all

/-- Settles O11: `step_of_halted` for the first check, `step_of_illegal` for the second, and for the others the
checks of the command that the word decodes to. -/
theorem acceptanceChecksInOrder : Obligations.AcceptanceChecksInOrder := by
  rintro p b q r hsel free req a rfl
  by_cases halted : b.state = .halted
  · exact ⟨_, step_of_halted hsel free req halted, (if_pos halted).symm⟩
  cases word : decode r.cmd with
  | error e =>
    exact ⟨_, step_of_illegal hsel free req halted (by simp [word]), (if_neg halted).symm⟩
  | ok i =>
    obtain ⟨hword, -⟩ := encode_of_decode word
    refine ⟨_, step_of_command hsel free req word, Eq.trans ?_ (if_neg halted).symm⟩
    have live : (b.turnGiven.take q r).state ≠ .halted := by simpa using halted
    cases i with
    | setup cap =>
      rw [Block.accept_setup live, hword]
      simp only [Block.take_turn, Block.take_phaseProd, Block.take_phaseCons, Block.turnGiven_phaseProd,
        Block.turnGiven_phaseCons]
      rfl
    | push =>
      rw [Block.accept_push live, hword]
      simp only [Block.take_turn, Block.take_state, Block.turnGiven_state]
      rfl
    | pop =>
      rw [Block.accept_pop live, hword]
      simp only [Block.take_turn, Block.take_state, Block.turnGiven_state]
      rfl
    | isEmpty =>
      rw [Block.accept_isEmpty live, hword]
      rfl

/-! ### Faults at acceptance -/

/-- Settles O18: check 4 applies (`Block.accept_push`, `Block.accept_pop`), and a fault entry on an idle port is
`Block.raise_of_free`. -/
theorem pushAndPopNeedSetup : Obligations.PushAndPopNeedSetup := by
  intro p b huncfg
  have live : b.state ≠ .halted := by simp [huncfg]
  constructor
  · intro hturn hphase
    have free : b.busy b.turn = false := by simp [hturn, hphase]
    rw [exec_of_free _ free, Block.accept_push live, if_neg (not_not.2 hturn), if_pos huncfg,
      Block.raise_of_free free, hturn, encode_push]
  · intro hturn hphase
    have free : b.busy b.turn = false := by simp [hturn, hphase]
    rw [exec_of_free _ free, Block.accept_pop live, if_neg (not_not.2 hturn), if_pos huncfg,
      Block.raise_of_free free, hturn, encode_pop]

/-- Settles O20: check 5 applies (`Block.accept_setup`), and CTRL, which has nothing in flight, takes the fault entry
(`Block.raise_of_free`). -/
theorem setupBusyFaults : Obligations.SetupBusyFaults := by
  intro p b cap live hturn hbusy
  have free : b.busy b.turn = false := by rw [hturn, Block.busy_ctrl]
  rw [exec_of_free _ free, Block.accept_setup live, if_neg (not_not.2 hturn), if_pos hbusy,
    Block.raise_of_free free, hturn]

end Sys2Proof.Machine
end

section
/-! Fault entry and HALTED (60_exceptions.md R143 to R146): which turn halts the block, and what a turn of a halted
block can move. -/

namespace Sys2Proof.Machine

variable {p : Params} {b b' : Block p} {q : Port}

/-! ### Fault entry -/

/-- Acceptance records the word presented: a legal word is the word of its command (30_encoding.md R71). -/
theorem RecordedWord.eq {w cmd : CmdWord} (h : RecordedWord w cmd) : cmd = w := by
  rcases h with ⟨e, -, rfl⟩ | ⟨i, hi, rfl⟩
  · rfl
  · exact (encode_of_decode hi).1

/-- A turn that halts the block is a fault entry, for a request of its idle port. -/
theorem MicroStep.fault_entry (m : MicroStep b q b') (live : b.state ≠ .halted) (halts : b'.state = .halted) :
    ∃ r c, b.busy q = false ∧ b.request q = some r ∧ c ≠ .none ∧ b' = (b.take q r).raise q c r.cmd := by
  have kept (h : b'.state = b.state) {P : Prop} : P := absurd (h.symm.trans halts) live
  cases m with
  | violation free req _ cause word => exact ⟨_, _, free, req, cause, by rw [word.eq]⟩
  | setup => cases halts
  | void | pushW | pushP | popR | popP => exact kept rfl
  | pushS => exact kept (by rw [Block.pushS_frame, Block.take_state])
  | popS => exact kept (by rw [Block.popS_frame, Block.take_state])
  | refused | isEmpty | abandon => exact kept (by simp)

/-! ### HALTED -/

/-- A turn of a halted block is void, or refuses a request, or abandons a command: it moves phases, requests and
responses, and the model's own fields. -/
theorem MicroStep.halted_frame (m : MicroStep b q b') (halted : b.state = .halted) :
    b' = { b with
      phaseProd := b'.phaseProd, phaseCons := b'.phaseCons, responses := b'.responses,
      reqCtrl := b'.reqCtrl, reqProd := b'.reqProd, reqCons := b'.reqCons,
      turn := b'.turn, opnd := b'.opnd, events := b'.events, draws := b'.draws } := by
  cases m with
  | void => rfl
  | refused | abandon => cases q <;> rfl
  | violation _ _ live | setup _ live | pushW _ live | pushP _ live | popR _ live | popP _ live | isEmpty _ _ live =>
    exact absurd halted live
  | pushS _ _ ready | popS _ _ ready => exact nomatch halted.symm.trans ready

/-- Settles O15: a step is the reset input, or a turn (`MicroStep.halted_frame`), or it moves no register. -/
theorem onlyResetLeavesHalted : Obligations.OnlyResetLeavesHalted := by
  intro p b b' h halted
  rcases (stepCase_of_step h).reset_or_turn_or_quiet with
    ⟨rest, hreset, rfl⟩ | ⟨q, rest, n, -, hno, m⟩ | ⟨-, hno, hb'⟩
  · rw [if_pos hreset]
    exact ⟨rfl, rfl, rfl, rfl⟩
  · rw [if_neg (by simp [hno])]
    exact m.halted_frame halted
  · rw [if_neg (by simp [hno]), hb']

/-- Settles O12: a step that halts the block is a turn (`MicroStep.fault_entry`), and on an idle port its fault entry
is `Block.raise_of_free`; that a halted block keeps its record is `onlyResetLeavesHalted`. -/
theorem faultEntryRecord : Obligations.FaultEntryRecord := by
  constructor
  · intro p b b' h live halts
    rcases (stepCase_of_step h).reset_or_turn_or_quiet with
      ⟨rest, -, rfl⟩ | ⟨q, rest, n, hsel, -, m⟩ | ⟨-, -, hb'⟩
    · cases halts
    · obtain ⟨r, c, free, req, cause, rfl⟩ := m.fault_entry live halts
      refine ⟨q, r, c, hsel, by simpa using free, by simpa using req, cause, ?_⟩
      rw [Block.raise_of_free (by simpa using free)]
      cases q <;> rfl
    · rw [hb'] at halts
      exact absurd halts live
  · intro p b b' h halted hno
    have frame := onlyResetLeavesHalted p b b' h halted
    rw [if_neg (by simp [hno])] at frame
    rw [frame]
    exact ⟨rfl, rfl, rfl⟩

/-! ### Commands in flight -/

theorem Block.continuing_of_halted (halted : b.state = .halted) (q : Port) (run : BlockOutcome p) :
    b.continuing q run = .next (b.complete q .fault) := if_pos halted

theorem Block.pushStep_of_halted (hturn : b.turn = .prod) (hbusy : b.phaseProd ≠ .idle) (halted : b.state = .halted) :
    b.pushStep = .next (b.complete .prod .fault) := by
  rw [Block.pushStep, if_pos hturn]
  cases hphase : b.phaseProd with
  | idle => exact absurd hphase hbusy
  | puW | puP => exact Block.continuing_of_halted halted _ _

theorem Block.popStep_of_halted (hturn : b.turn = .cons) (hbusy : b.phaseCons ≠ .idle) (halted : b.state = .halted) :
    b.popStep = .next (b.complete .cons .fault) := by
  rw [Block.popStep, if_pos hturn]
  cases hphase : b.phaseCons with
  | idle => exact absurd hphase hbusy
  | poR | poP => exact Block.continuing_of_halted halted _ _

/-- Settles O14: the next micro-step is abandoned (`Block.pushStep_of_halted`, `Block.popStep_of_halted`). -/
theorem inFlightAbandonedWhenHalted : Obligations.InFlightAbandonedWhenHalted := fun _ _ halted =>
  ⟨fun hturn hbusy => congrArg BlockOutcome.toState (Block.pushStep_of_halted hturn hbusy halted),
    fun hturn hbusy => congrArg BlockOutcome.toState (Block.popStep_of_halted hturn hbusy halted)⟩

end Sys2Proof.Machine
end

section
/-! Weak fairness completes the commands in flight (60_exceptions.md R151, 70_reset_and_hazards.md R181): a busy port
stays enabled until its turn, and each turn lowers the number of micro-steps left. -/

namespace Sys2Proof.Machine

variable {p : Params} {b b' : Block p} {q : Port}

/-- A turn that ends the command in flight answers on its port. -/
theorem MicroStep.answers_of_ends (m : MicroStep b q b') (busy : b.busy q = true) (ends : b'.busy q = false) :
    ∃ rsp, b'.responses = b.responses ++ [{ port := q, rsp := rsp }] := by
  cases m with
  | void free | refused free | violation free | isEmpty free => exact nomatch free.symm.trans busy
  | setup => simp at busy
  | pushS free | popS free => simp [free] at busy
  | pushW | popR => cases ends
  | pushP | popP => exact ⟨.doneTrue, rfl⟩
  | abandon => exact ⟨.fault, rfl⟩

/-- An infinite run of steps without reset. -/
structure ResetFreeRun (run : Nat → Block p) : Prop where
  next : ∀ n, step { par := p, blk := run n } = .next { par := p, blk := run (n + 1) }
  noReset : ∀ n, (run n).resetting = false

variable {run : Nat → Block p} {n : Nat}

/-- The turn of a port with a command in flight leaves it fewer micro-steps, or ends it with a response. -/
theorem ResetFreeRun.turn (h : ResetFreeRun run) (hsel : (run n).selected = some q) (busy : (run n).busy q = true) :
    (run (n + 1)).stepsLeft q < (run n).stepsLeft q ∧ ((run (n + 1)).busy q = false →
      ∃ rsp, (run (n + 1)).responses.getLast? = some { port := q, rsp := rsp }) := by
  rcases (stepCase_of_step (h.next n)).reset_or_turn_or_quiet with
    ⟨rest, hreset, -⟩ | ⟨q', rest, k, hq', -, m⟩ | ⟨hnone, -, -⟩
  · exact nomatch (h.noReset n).symm.trans hreset
  · obtain rfl : q' = q := Option.some_inj.1 (hq'.symm.trans hsel)
    refine ⟨m.stepsLeft_lt (by simpa using busy), fun ends => ?_⟩
    obtain ⟨rsp, hrsp⟩ := m.answers_of_ends (by simpa using busy) ends
    exact ⟨rsp, by rw [hrsp, List.getLast?_concat]⟩
  · exact nomatch hnone.symm.trans hsel

/-- Until its turn a port has as many micro-steps left as before. -/
theorem ResetFreeRun.turn_or_stepsLeft_eq (h : ResetFreeRun run) (q : Port) (n k : Nat) :
    (∃ j, n ≤ j ∧ (run j).selected = some q ∧ (run j).stepsLeft q = (run n).stepsLeft q) ∨
      (run (n + k)).stepsLeft q = (run n).stepsLeft q := by
  induction k with
  | zero => exact .inr rfl
  | succ k ih =>
    rcases ih with hturn | hsame
    · exact .inl hturn
    · by_cases hsel : (run (n + k)).selected = some q
      · exact .inl ⟨n + k, Nat.le_add_right n k, hsel, hsame⟩
      · obtain ⟨-, -, -, hother⟩ := commandsTakeThreeSteps p _ _ q (h.next (n + k)) (h.noReset (n + k))
        exact .inr ((hother hsel).trans hsame)

/-- Under weak fairness a port with a command in flight gets a turn, with all its micro-steps left. -/
theorem ResetFreeRun.exists_turn (h : ResetFreeRun run) (fair : WeaklyFair run) (busy : (run n).busy q = true) :
    ∃ j, n ≤ j ∧ (run j).selected = some q ∧ (run j).stepsLeft q = (run n).stepsLeft q := by
  obtain ⟨m, hm, hfair⟩ := fair q n
  obtain ⟨k, rfl⟩ := Nat.exists_eq_add_of_le hm
  rcases h.turn_or_stepsLeft_eq q n k with hturn | hsame
  · exact hturn
  · have busy' : (run (n + k)).busy q = true := by
      rwa [Block.busy_iff_stepsLeft_pos, hsame, ← Block.busy_iff_stepsLeft_pos]
    have hsel := hfair.resolve_left (by simp [Block.enabled, busy'])
    exact ⟨n + k, hm, hsel, hsame⟩

/-- Settles O51, by induction on the micro-steps left: the port gets a turn (`ResetFreeRun.exists_turn`), which ends the
command with a response or leaves it fewer (`ResetFreeRun.turn`). -/
theorem fairRunsCompleteCommands : Obligations.FairRunsCompleteCommands := by
  intro p run next noReset fair q n busy
  have h : ResetFreeRun run := ⟨next, noReset⟩
  induction hleft : (run n).stepsLeft q using Nat.strong_induction_on generalizing n with
  | _ left ih =>
    obtain ⟨j, hj, hsel, hsame⟩ := h.exists_turn fair busy
    have busy' : (run j).busy q = true := by
      rwa [Block.busy_iff_stepsLeft_pos, hsame, ← Block.busy_iff_stepsLeft_pos]
    obtain ⟨hlt, hends⟩ := h.turn hsel busy'
    cases hb : (run (j + 1)).busy q with
    | false =>
      obtain ⟨rsp, hrsp⟩ := hends hb
      exact ⟨j + 1, rsp, Nat.lt_succ_of_le hj, hb, hrsp⟩
    | true =>
      obtain ⟨m, rsp, hm, hidle, hrsp⟩ := ih _ (by omega) (j + 1) hb rfl
      exact ⟨m, rsp, by omega, hidle, hrsp⟩

end Sys2Proof.Machine
end

section
/-! Interleaving I1 (95_test_vectors.md section 2.6): a POP and a PUSH, each presented and then run by three scheduled
turns, in either order. -/

namespace Sys2Proof.Machine

variable {p : Params} {b : Block p}

/-! ### The three steps of one POP -/

/-- CONS's request for `POP`, whose operand is ignored. -/
def popRequest (o : Opnd p) : Request p := { cmd := 0x00000002, opnd := o }

theorem step_popS {o : Opnd p} {rest : List (Event p)} (head : b.events = .run .cons :: rest)
    (hphase : b.phaseCons = .idle) (hreq : b.reqCons = some (popRequest o)) (hready : b.state = .ready) :
    step { par := p, blk := b } =
      .next { par := p, blk := ((b.moved rest b.draws).take .cons (popRequest o)).popS } := by
  have hdecode : decode (popRequest o).cmd = .ok .pop := decode_encode (i := .pop) rfl
  rw [step_of_run head, State.takeTurn_of_request (r := popRequest o) (by simp [hphase]) (by simp [hreq])]
  simp only [State.accept, hdecode]
  exact exec_popS rfl hphase hready

theorem step_popR {d : Elem p} {rest : List (Event p)} (head : b.events = .run .cons :: rest)
    (hphase : b.phaseCons = .poR) (live : b.state ≠ .halted) (slot : b.storage.read (b.slotAddr b.clR) = some d) :
    step { par := p, blk := b } =
      .next { par := p, blk := ((b.moved rest b.draws).atTurn .cons).latched d } := by
  rw [step_of_run head, State.takeTurn_of_busy (by simp [hphase])]
  have hpopR : ((b.moved rest b.draws).atTurn .cons).popR = _ := Block.popR_of_written slot
  exact (exec_popR (b := (b.moved rest b.draws).atTurn .cons) rfl hphase live).trans
    (congrArg BlockOutcome.toState hpopR)

theorem step_popP {rest : List (Event p)} (head : b.events = .run .cons :: rest) (hphase : b.phaseCons = .poP)
    (live : b.state ≠ .halted) :
    step { par := p, blk := b } = .next { par := p, blk := ((b.moved rest b.draws).atTurn .cons).popP } := by
  rw [step_of_run head, State.takeTurn_of_busy (by simp [hphase])]
  exact exec_popP rfl hphase live

/-! ### One command that is presented, in its scheduled turns -/

/-- The block with `POP` taken from CONS. -/
def Block.popTaken (b : Block p) (o : Opnd p) (rest : List (Event p)) : Block p :=
  { b with reqCons := none, turn := .cons, opnd := o, events := rest }

/-- The block with `POP` sampled: POP.R is next. -/
def Block.popSampled (b : Block p) (o : Opnd p) (rest : List (Event p)) : Block p :=
  { b.popTaken o rest with clR := b.rdIdx, clNR := b.next b.rdIdx, phaseCons := .poR }

/-- The turn that takes the request of a POP moves nothing else. -/
theorem Block.take_moved_cons (b : Block p) (o : Opnd p) (rest : List (Event p)) :
    (b.moved rest b.draws).take .cons (popRequest o) = b.popTaken o rest := rfl

theorem Block.popS_popTaken (o : Opnd p) (rest : List (Event p)) (hempty : b.empty = false) :
    (b.popTaken o rest).popS = b.popSampled o rest := Block.popS_of_not_empty _ hempty

/-- A POP that finds an element takes three turns. -/
theorem runs_pop {o : Opnd p} {d : Elem p} {rest : List (Event p)}
    (head : b.events = .run .cons :: .run .cons :: .run .cons :: rest) (hphase : b.phaseCons = .idle)
    (hreq : b.reqCons = some (popRequest o)) (hready : b.state = .ready) (hempty : b.empty = false)
    (slot : b.storage.read (b.slotAddr b.rdIdx) = some d) : Runs 3 b ((b.popSampled o rest).latched d).popP := by
  have live : b.state ≠ .halted := by simp [hready]
  have hpopS := step_popS head hphase hreq hready
  rw [Block.take_moved_cons, Block.popS_popTaken _ _ hempty] at hpopS
  have hpopR : step { par := p, blk := b.popSampled o (.run .cons :: .run .cons :: rest) } =
      .next { par := p, blk := (b.popSampled o (.run .cons :: rest)).latched d } := step_popR rfl rfl live slot
  have hpopP : step { par := p, blk := (b.popSampled o (.run .cons :: rest)).latched d } =
      .next { par := p, blk := ((b.popSampled o rest).latched d).popP } := step_popP rfl rfl live
  exact .step hpopS (.step hpopR (.step hpopP (.zero _)))

/-- The turn that takes the request of a PUSH moves nothing else. -/
theorem Block.take_moved_prod (b : Block p) (o : Opnd p) (rest : List (Event p)) :
    (b.moved rest b.draws).take .prod (pushRequest o) = b.taken o rest := rfl

/-- A PUSH that finds room takes three turns. -/
theorem runs_push {o : Opnd p} {rest : List (Event p)}
    (head : b.events = .run .prod :: .run .prod :: .run .prod :: rest) (hphase : b.phaseProd = .idle)
    (hreq : b.reqProd = some (pushRequest o)) (hready : b.state = .ready) (hfull : b.full = false) :
    Runs 3 b (b.sampled o rest).pushW.pushP := by
  have live : b.state ≠ .halted := by simp [hready]
  have hpushS := step_pushS head hphase hreq hready
  rw [Block.take_moved_prod, Block.pushS_taken _ _ hfull] at hpushS
  have hpushW : step { par := p, blk := b.sampled o (.run .prod :: .run .prod :: rest) } =
      .next { par := p, blk := (b.sampled o (.run .prod :: rest)).pushW } := step_pushW rfl rfl live
  have hpushP : step { par := p, blk := (b.sampled o (.run .prod :: rest)).pushW } =
      .next { par := p, blk := (b.sampled o rest).pushW.pushP } := step_pushP rfl rfl live
  exact .step hpushS (.step hpushW (.step hpushP (.zero _)))

/-- A PUSH that finds the buffer full responds 00 in its first turn. -/
theorem runs_push_of_full {o : Opnd p} {rest : List (Event p)} (head : b.events = .run .prod :: rest)
    (hphase : b.phaseProd = .idle) (hreq : b.reqProd = some (pushRequest o)) (hready : b.state = .ready)
    (hfull : b.full = true) : Runs 1 b ((b.taken o rest).complete .prod .doneFalse) := by
  have hpushS := step_pushS head hphase hreq hready
  rw [Block.take_moved_prod, Block.pushS_of_full (b.taken o rest) hfull] at hpushS
  exact .step hpushS (.zero _)

/-! ### The two schedules -/

/-- A configured block with nothing in flight, `PUSH o` and a POP presented, and `d` in the head slot. -/
structure Block.PushAndPopPresented (b : Block p) (o o' : Opnd p) (d : Elem p) : Prop where
  ready : b.state = .ready
  prodIdle : b.phaseProd = .idle
  consIdle : b.phaseCons = .idle
  reqProd : b.reqProd = some (pushRequest o)
  reqCons : b.reqCons = some (popRequest o')
  nonempty : b.empty = false
  head : b.storage.read (b.slotAddr b.rdIdx) = some d

variable {o o' : Opnd p} {d : Elem p}

/-- PROD first: the buffer is full, so the PUSH fails, and the POP takes the head element. -/
theorem Block.PushAndPopPresented.runs_prod_first (hb : b.PushAndPopPresented o o' d) (hfull : b.full = true) :
    ∃ b', Runs 4 { b with events := [.run .prod, .run .cons, .run .cons, .run .cons] } b' ∧
      b'.wrIdx = b.wrIdx ∧ b'.rdIdx = b.next b.rdIdx ∧ b'.popData = d ∧ b'.popWritten = true := by
  have hpush : Runs 1 { b with events := [.run .prod, .run .cons, .run .cons, .run .cons] }
      ((b.taken o [.run .cons, .run .cons, .run .cons]).complete .prod .doneFalse) :=
    runs_push_of_full rfl hb.prodIdle hb.reqProd hb.ready hfull
  have hpop := runs_pop (b := (b.taken o [.run .cons, .run .cons, .run .cons]).complete .prod .doneFalse)
    rfl hb.consIdle hb.reqCons hb.ready (by simpa [Block.empty, Block.taken] using hb.nonempty)
    (by simpa [Block.slotAddr, Block.taken] using hb.head)
  refine ⟨_, hpush.trans hpop, ?_⟩
  simp [Block.popP, Block.latched, Block.popSampled, Block.popTaken, Block.taken, Block.next]

/-- CONS first: the POP takes the head element, so the PUSH finds room where it found none. -/
theorem Block.PushAndPopPresented.runs_cons_first (hb : b.PushAndPopPresented o o' d)
    (room : b.next b.wrIdx ≠ b.next b.rdIdx) :
    ∃ b', Runs 6 { b with events := [.run .cons, .run .cons, .run .cons, .run .prod, .run .prod, .run .prod] } b' ∧
      b'.wrIdx = b.next b.wrIdx ∧ b'.rdIdx = b.next b.rdIdx ∧ b'.mask = b.mask ∧ b'.base = b.base ∧
      b'.storage = b.storage.write (b.slotAddr b.wrIdx) (opndElem o) := by
  have hpop : Runs 3 { b with events := [.run .cons, .run .cons, .run .cons, .run .prod, .run .prod, .run .prod] }
      ((b.popSampled o' [.run .prod, .run .prod, .run .prod]).latched d).popP :=
    runs_pop rfl hb.consIdle hb.reqCons hb.ready hb.nonempty hb.head
  have hpush := runs_push (b := ((b.popSampled o' [.run .prod, .run .prod, .run .prod]).latched d).popP)
    rfl hb.prodIdle hb.reqProd hb.ready ((Block.full_eq_false _).2 room)
  refine ⟨_, hpop.trans hpush, ?_⟩
  simp [Block.pushP, Block.pushW, Block.sampled, Block.taken, Block.popP, Block.latched, Block.popSampled,
    Block.popTaken, Block.next, Block.slotAddr]

/-- Where the only live element stands in slot 1 of 2, the queue holds what that slot holds. -/
theorem Block.queue_of_one_of_two {b : Block Params.defaults} (hwr : b.wrIdx = 0) (hrd : b.rdIdx = 1)
    (hmask : b.mask = 1) : b.queue = [b.storage.read (b.slotAddr 1)] := by
  have hocc : b.occupancy = 1 := by
    rw [Block.occupancy, Block.capacity, hwr, hrd, hmask]
    rfl
  have hlive : b.liveIdx 0 = 1 := by
    rw [Block.liveIdx, Block.capacity, hrd, hmask]
    rfl
  rw [Block.queue_eq, hocc, List.range_one, List.map_singleton, Block.slotValue, hlive]

/-- Settles O10: the two schedules are `Block.PushAndPopPresented.runs_prod_first` and `runs_cons_first`, and the
indices and the queue are computed from what I1 starts with. -/
theorem bothSchedulesAdmitted : Obligations.BothSchedulesAdmitted := by
  intro b hready hmask hbase hwr hrd hstorage hprod hcons hreqProd hreqCons
  have hnextRd : b.next b.rdIdx = 1 := by
    rw [Block.next, hrd, hmask]
    rfl
  have hnextWr : b.next b.wrIdx = 0 := by
    rw [Block.next, hwr, hmask]
    rfl
  have hempty : b.empty = false := by
    rw [b.empty_eq_false, hwr, hrd]
    decide
  have hhead : b.storage.read (b.slotAddr b.rdIdx) = some 0xA := by
    rw [hstorage, Block.slotAddr, hbase, hrd, hmask]
    rfl
  have hb : b.PushAndPopPresented 0xB 0 0xA := ⟨hready, hprod, hcons, hreqProd, hreqCons, hempty, hhead⟩
  constructor
  · have hfull : b.full = true := by rw [Block.full, hnextWr, hrd, beq_self_eq_true]
    obtain ⟨b', hruns, hwr', hrd', hdata⟩ := hb.runs_prod_first hfull
    exact ⟨b', hruns, hwr'.trans hwr, hrd'.trans hnextRd, hdata⟩
  · have room : b.next b.wrIdx ≠ b.next b.rdIdx := by
      rw [hnextWr, hnextRd]
      decide
    obtain ⟨b', hruns, hwr', hrd', hmask', hbase', hstorage'⟩ := hb.runs_cons_first room
    refine ⟨b', hruns, hwr'.trans hnextWr, hrd'.trans hnextRd, ?_⟩
    have haddr : b'.slotAddr 1 = b.slotAddr b.wrIdx := by
      rw [hwr, Block.slotAddr, Block.slotAddr, hmask', hbase']
    rw [Block.queue_of_one_of_two (hwr'.trans hnextWr) (hrd'.trans hnextRd) (hmask'.trans hmask), haddr, hstorage',
      Memory.read_write_same]
    rfl

end Sys2Proof.Machine
end

section
/-! The reset input (70_reset_and_hazards.md R170) and the STATUS word that stands after it (R171). -/

namespace Sys2Proof.Machine

variable {p : Params} {b : Block p}

/-- EMPTY = 1: the indices are both 0. -/
theorem Block.empty_initial (p : Params) : (Block.initial p).empty = true := beq_self_eq_true _

theorem Block.next_of_mask_zero (h : b.mask = 0) (i : Idx p) : b.next i = 0 := by
  rw [Block.next, h]
  exact BitVec.and_zero

/-- FULL = 1 although nothing is stored: MASK = 0 makes Next(0) = 0 = RD_IDX. -/
theorem Block.full_initial (p : Params) : (Block.initial p).full = true :=
  beq_iff_eq.2 (Block.next_of_mask_zero rfl _)

/-- Settles O41: STATUS holds both comparators, EMPTY = FULL = 1, over the codes of UNCFG and of no fault. -/
theorem statusAfterReset : Obligations.StatusAfterReset := by
  intro p
  show (Block.initial p).status = 0x00000060
  rw [Block.status, Block.empty_initial, Block.full_initial]
  simp only [Block.initial]
  decide

/-- Settles O42: the reset input answers `Block.reset` (`step_of_reset`), which names every register the statement
fixes and moves no other but the latches and POP_DATA. -/
theorem resetInput : Obligations.ResetInput := fun _ b rest head =>
  ⟨{ b.reset with events := rest }, step_of_reset head, rfl⟩

end Sys2Proof.Machine
end
